-- ==== Sys2Proof/Word.lean ====
section
/-! DEFINITION. The plainest words of the model: the byte of the line and the modulus of the seconds count. -/

namespace Sys2Proof

/-- One character of a port, and one byte of a message (spec/09 R152, R153). -/
abbrev Byte := BitVec 8

/-- The number of values of the 32-bit seconds count and of every 32-bit counter (spec/04 R67). -/
abbrev countModulus : Nat := 4294967296

/-- Seconds of a day (spec/04 R67). -/
abbrev secondsPerDay : Nat := 86400

end Sys2Proof
end

