-- ==== Sys2Proof/Config.lean ====
section
/-! DEFINITION. What one EJ440 fixes for good: the capacities and the fixed durations that the spec gives as numbers and
no setting changes, and the free values: what the spec leaves open, with no body to reason from. -/

namespace Sys2Proof.Config

/-- Messages a transmit queue holds (spec/09 R157). -/
abbrev queueCapacity : Nat := 4
/-- Records the journal ring holds (spec/08 R141). -/
abbrev ringCapacity : Nat := 256
/-- Phase records a bank holds (spec/01 R1). -/
abbrev phaseCapacity : Nat := 16
/-- Segments a ladder holds (spec/01 R1). -/
abbrev ladderCapacity : Nat := 8
/-- Largest SHUTTER total of a ladder that COMMIT takes (spec/01 R4). -/
abbrev maxShutterTotal : Nat := 1408
/-- Largest ladder total that COMMIT takes, and largest span of one segment (spec/01 R4). -/
abbrev maxLadderTotal : Nat := 1920
/-- Where the pulse counter saturates (spec/02 R27). -/
abbrev maxPulses : Nat := 1048575
/-- Where a count of 16 bits saturates: the pending skipped count (spec/04 R73). -/
abbrev maxSkipped : Nat := 65535
/-- Where the daily spend and an on-time accumulator saturate (spec/07 R126). -/
abbrev maxCharge : Nat := 4294967295
/-- Where the battery reading is cut (spec/07 R127). -/
abbrev maxMillivolts : Nat := 16383
/-- Where a miss count saturates (spec/06 R120). -/
abbrev maxMisses : Nat := 15
/-- Where an error count saturates (spec/09 R154). -/
abbrev maxErrors : Nat := 255
/-- The longest effective interval, in seconds (spec/04 R76). -/
abbrev maxInterval : Nat := 86400
/-- Seconds from a SEQ_RESUME or a resumption to the START anchor it sets (spec/04 R75, R83). -/
abbrev startDelay : Nat := 5
/-- The inter-byte timer, in milliseconds (spec/09 R153). -/
abbrev interByteMs : Nat := 100
/-- The grace of CLOSING, in milliseconds (spec/06 R116). -/
abbrev graceMs : Nat := 2000
/-- The battery measurement period, in milliseconds (spec/07 R127). -/
abbrev measurementMs : Nat := 60000

/-! ## Free values -/

/-! What the spec gives no value for where a head's old ticket is issued again in a frame whose entry for it has no ticket part
(spec/03 R44 after a journal restart, spec/08 R143). Each takes the head's number and the frame's sequence. -/

/-- The applied need of the ticket, the ramp record being unseeded (log entry 40). -/
opaque unstatedNeed : Nat → Nat → Nat

/-- The exposure duration that the member fires with, in microseconds (log entry 36). -/
opaque unstatedExposure : Nat → Nat → Nat

/-- Whether the member fires in BULB mode (log entry 36). -/
opaque unstatedBulb : Nat → Nat → Bool

end Sys2Proof.Config
end

