-- ==== Sys2Proof/Syntax.lean ====
section
/-! DEFINITION. The commands of the EJ440: one constructor of `Instr` for each row of spec/opcode_table.json, with the
names (heads, ports, request kinds) that a command speaks of. -/

namespace Sys2Proof

/-- The four camera heads, numbered after the port they use (spec/00, Conventions). -/
inductive Head where
  | h0 | h1 | h2 | h3
  deriving DecidableEq, Repr

/-- The six ports: four head ports, the uplink and the service port (spec/00, Description). -/
inductive Port where
  | h0 | h1 | h2 | h3 | ul | sv
  deriving DecidableEq, Repr

/-- The two station ports (spec/00, Description). -/
inductive Station where
  | ul | sv
  deriving DecidableEq, Repr

/-- The two kinds of edge of the LPULSE input (spec/02 R27). -/
inductive Edge where
  | rising | falling
  deriving DecidableEq, Repr

/-- The request kinds of spec/09 R159. -/
inductive Kind where
  | hello | ready | result
  | statusRead | eventsRead | eventsEnable | portStatus | portReset
  | journalRead | journalAck | clockSet | clockRead | configWrite | configRead
  | planClear | phaseAppend | phaseReplace | ladderPut | commit | planRead | planCopy
  | seqHold | seqResume | forceFrame | headReadmit | rampRead | rampReseed
  | bulletinWrite | bulletinRead | flagSet | flagClear | flagRead
  deriving DecidableEq, Repr

/-- The 26 bytes of a phase record as they stand on the line, field by field (spec/09 R166). -/
structure RawPhase where
  startKind : Byte
  presence : Byte
  startTime : BitVec 32
  threshold : BitVec 16
  confirm : Byte
  interval : BitVec 32
  frameLimit : BitVec 16
  headSet : Byte
  syncMode : Byte
  armWindow : Byte
  compensation : BitVec 16
  targetLevel : BitVec 16
  feedbackWeight : Byte
  slewLimit : Byte
  smoothingWeight : Byte
  deadband : Byte
  deriving DecidableEq, Repr

/-- One slot of a ladder as it stands on the line: control byte and span (spec/09 R166). -/
structure RawSegment where
  control : Byte
  span : BitVec 16
  deriving DecidableEq, Repr

/-- The commands, in the order of spec/opcode_table.json.

A request command (`hello` to `flagRead`) is the event at which the check byte of a well-framed message of that kind
arrives at `port`: `tag` is the message's TAG and the other operands are its fields as they stand on the line.
`bsense` of the three commands that always measure the battery lists what the BSENSE input shows at the measurements
from there on, first first (an empty list: the input is unchanged), in quarter-millivolts (log entry 2). -/
inductive Instr where
  | hello (port : Port) (tag : Byte)
  | ready (port : Port) (tag : Byte) (sequence : BitVec 32)
  | result (port : Port) (tag : Byte) (sequence : BitVec 32) (level : BitVec 16) (storageFree : BitVec 16) (flags : Byte)
  | statusRead (port : Port) (tag : Byte)
  | eventsRead (port : Port) (tag : Byte)
  | eventsEnable (port : Port) (tag : Byte) (field : BitVec 16)
  | portStatus (port : Port) (tag : Byte) (index : Byte)
  | portReset (port : Port) (tag : Byte) (index : Byte)
  | journalRead (port : Port) (tag : Byte) (start : BitVec 32) (count : Byte)
  | journalAck (port : Port) (tag : Byte) (sequence : BitVec 32)
  | clockSet (port : Port) (tag : Byte) (count : BitVec 32)
  | clockRead (port : Port) (tag : Byte)
  | configWrite (port : Port) (tag : Byte) (item : Byte) (index : Byte) (value : BitVec 32)
  | configRead (port : Port) (tag : Byte) (item : Byte) (index : Byte)
  | planClear (port : Port) (tag : Byte)
  | phaseAppend (port : Port) (tag : Byte) (phase : RawPhase)
  | phaseReplace (port : Port) (tag : Byte) (index : Byte) (phase : RawPhase)
  | ladderPut (port : Port) (tag : Byte) (count : Byte) (slots : List RawSegment)
  | commit (port : Port) (tag : Byte) (entry : Byte)
  | planRead (port : Port) (tag : Byte) (selector : Byte) (item : Byte)
  | planCopy (port : Port) (tag : Byte)
  | seqHold (port : Port) (tag : Byte)
  | seqResume (port : Port) (tag : Byte)
  | forceFrame (port : Port) (tag : Byte)
  | headReadmit (port : Port) (tag : Byte) (index : Byte)
  | rampRead (port : Port) (tag : Byte) (index : Byte)
  | rampReseed (port : Port) (tag : Byte) (index : Byte)
  | bulletinWrite (port : Port) (tag : Byte) (index : Byte) (value : BitVec 16)
  | bulletinRead (port : Port) (tag : Byte) (window : Byte)
  | flagSet (port : Port) (tag : Byte) (flag : Byte)
  | flagClear (port : Port) (tag : Byte) (flag : Byte)
  | flagRead (port : Port) (tag : Byte)
  | unknownKind (port : Port) (tag : Byte) (kind : Byte)
  | checkError (port : Port)
  | lengthError (port : Port)
  | overrun (port : Port)
  | framingError (port : Port)
  | interByteTimerExpiry (port : Port)
  | messageSent (port : Port)
  | pulseEdge (edge : Edge)
  | settleElapsed
  | readingCompletion
  | periodTimerExpiry
  | secondsCountAdvance
  | helloTimerExpiry (head : Head)
  | readyTimerExpiry (head : Head)
  | resultTimerExpiry (head : Head)
  | graceTimerExpiry (head : Head)
  | standbyTimerExpiry (head : Head)
  | armTimerExpiry
  | bulbTimerExpiry (head : Head)
  | pulseWidthElapsed (head : Head)
  | measurementTimerExpiry (bsense : List Nat)
  | mainSupplyLoss
  | nrstAssert
  | coldStart (bsense : List Nat)
  | warmStart (bsense : List Nat)
  | characterReceived (port : Port) (char : Byte)
  deriving DecidableEq, Repr

end Sys2Proof
end

