-- ==== Sys2Proof/Machine/State.lean ====
section
/-! DEFINITION. The state of the EJ440 as plain data, block by block as spec/00 lists them, the two reason types, and the
state right after a cold start. Absolute times on the seconds count are `Int` (spec/04 R67: signed numbers wider than the
count). Counts are `Nat`. A timer is `some ms` (milliseconds left) while it runs and `none` while it is stopped. -/

namespace Sys2Proof.Machine

/-! ## Fixed numbers of like things -/

/-- One thing per head. -/
structure Four (α : Type) where
  h0 : α
  h1 : α
  h2 : α
  h3 : α
  deriving DecidableEq, Repr

def Four.get {α : Type} (v : Four α) : Head → α
  | .h0 => v.h0
  | .h1 => v.h1
  | .h2 => v.h2
  | .h3 => v.h3

def Four.set {α : Type} (v : Four α) (h : Head) (a : α) : Four α :=
  match h with
  | .h0 => { v with h0 := a }
  | .h1 => { v with h1 := a }
  | .h2 => { v with h2 := a }
  | .h3 => { v with h3 := a }

/-- One thing per port. -/
structure Six (α : Type) where
  h0 : α
  h1 : α
  h2 : α
  h3 : α
  ul : α
  sv : α
  deriving DecidableEq, Repr

def Six.get {α : Type} (v : Six α) : Port → α
  | .h0 => v.h0
  | .h1 => v.h1
  | .h2 => v.h2
  | .h3 => v.h3
  | .ul => v.ul
  | .sv => v.sv

def Six.set {α : Type} (v : Six α) (p : Port) (a : α) : Six α :=
  match p with
  | .h0 => { v with h0 := a }
  | .h1 => { v with h1 := a }
  | .h2 => { v with h2 := a }
  | .h3 => { v with h3 := a }
  | .ul => { v with ul := a }
  | .sv => { v with sv := a }

/-- One thing per station. -/
structure Two (α : Type) where
  ul : α
  sv : α
  deriving DecidableEq, Repr

def Two.get {α : Type} (v : Two α) : Station → α
  | .ul => v.ul
  | .sv => v.sv

def Two.set {α : Type} (v : Two α) (st : Station) (a : α) : Two α :=
  match st with
  | .ul => { v with ul := a }
  | .sv => { v with sv := a }

/-- The index of a word of a window, and of a shared flag (spec/10 R169, R172). -/
inductive Idx where
  | i0 | i1 | i2 | i3 | i4 | i5 | i6 | i7
  deriving DecidableEq, Repr

/-- Eight things: the words of a window, the shared flags. -/
structure Eight (α : Type) where
  i0 : α
  i1 : α
  i2 : α
  i3 : α
  i4 : α
  i5 : α
  i6 : α
  i7 : α
  deriving DecidableEq, Repr

def Eight.get {α : Type} (v : Eight α) : Idx → α
  | .i0 => v.i0
  | .i1 => v.i1
  | .i2 => v.i2
  | .i3 => v.i3
  | .i4 => v.i4
  | .i5 => v.i5
  | .i6 => v.i6
  | .i7 => v.i7

def Eight.set {α : Type} (v : Eight α) (i : Idx) (a : α) : Eight α :=
  match i with
  | .i0 => { v with i0 := a }
  | .i1 => { v with i1 := a }
  | .i2 => { v with i2 := a }
  | .i3 => { v with i3 := a }
  | .i4 => { v with i4 := a }
  | .i5 => { v with i5 := a }
  | .i6 => { v with i6 := a }
  | .i7 => { v with i7 := a }

/-- A subset of the four heads (spec/00, Conventions): which heads it holds. -/
abbrev HeadSet := Four Bool

/-! ## Enumerated values -/

/-- The two plan banks (spec/01 R1). -/
inductive BankId where
  | a | b
  deriving DecidableEq, Repr

/-- The tiers, from the least severe (spec/07 R126). -/
inductive Tier where
  | normal | economy | reserve | halt
  deriving DecidableEq, Repr

inductive BudgetFloor where
  | none | economy
  deriving DecidableEq, Repr

inductive RunState where
  | held | running
  deriving DecidableEq, Repr

inductive AnchorKind where
  | frame | start
  deriving DecidableEq, Repr

/-- Why the due time is absent, in the order of spec/04 R73. -/
inductive NoDueReason where
  | none | held | inFrame | exhausted | halt
  deriving DecidableEq, Repr

inductive SyncMode where
  | free | locked
  deriving DecidableEq, Repr

/-- The stages of a FREE frame (spec/05 R88), then the sync states of a LOCKED frame (spec/05 R89). -/
inductive Sync where
  | beforeD | afterD
  | waiting | window | fired | abandoned | aborted
  deriving DecidableEq, Repr

inductive HeadState where
  | off | waking | ticketed | armed | exposing | reporting | closing | standby
  deriving DecidableEq, Repr

inductive ExclusionReason where
  | misses | storage
  deriving DecidableEq, Repr

/-- The outcomes of one member (spec/05 R87). -/
inductive EntryOutcome where
  | done | noHello | noReady | noResult | abandoned | aborted | reset | powerCut | lostPower
  deriving DecidableEq, Repr

/-- The outcomes of a frame (spec/05 R97). -/
inductive FrameOutcome where
  | ok | partially | failed | abandonedSync | aborted | lostPower
  deriving DecidableEq, Repr

inductive TriggerMode where
  | timed | bulb
  deriving DecidableEq, Repr

inductive Polarity where
  | activeHigh | activeLow
  deriving DecidableEq, Repr

inductive Control where
  | shutter | gain | aperture
  deriving DecidableEq, Repr

inductive Gate where
  | ms250 | s1 | s4
  deriving DecidableEq, Repr

inductive MeterActivity where
  | idle | settling | gating
  deriving DecidableEq, Repr

/-- The states of a completed reading (spec/02 R34; NONE is the absence of a reading). -/
inductive ReadingState where
  | dark | saturated | stable | unstable
  deriving DecidableEq, Repr

inductive LineSpeed where
  | b9600 | b19200 | b57600 | b115200
  deriving DecidableEq, Repr

inductive PushMode where
  | flag | push
  deriving DecidableEq, Repr

/-- The five kinds of receive error (spec/09 R154). -/
inductive LineError where
  | framing | check | length | truncated | overrun
  deriving DecidableEq, Repr

/-- The ten station events, in the order of their bits (spec/09 R160). -/
inductive Event where
  | frameClosed | journalFill | phaseChanged | planSwapped | tierChanged | headExcluded | lineErrors | bulletinChanged
  | clockSet | resumed
  deriving DecidableEq, Repr

/-! ## Time base and scheduler (spec/04) -/

structure TimeBase where
  /-- The seconds count (R67). -/
  count : Nat
  /-- The clock-valid flag, `true` for VALID (R68). -/
  valid : Bool
  /-- Milliseconds of the running second of the retention clock (R67, R71; the model's own resolution, log entry 4). -/
  subSecond : Nat
  /-- Milliseconds since the last CLOCK_SET or start (R72). -/
  sinceSet : Nat
  deriving DecidableEq, Repr

structure Anchor where
  time : Int
  kind : AnchorKind
  deriving DecidableEq, Repr

structure Scheduler where
  run : RunState
  anchor : Option Anchor
  due : Option Int
  lastDue : Option Int
  openTime : Option Int
  interval : Nat
  skipped : Nat
  deriving DecidableEq, Repr

/-! ## Plan controller (spec/01) -/

/-- When a phase is entered, with the fields that go with each start kind (R3). -/
inductive Start where
  | atTime (time : Nat)
  | onDarker (threshold : Int) (confirm : Nat)
  | onBrighter (threshold : Int) (confirm : Nat)
  | afterLimit
  deriving DecidableEq, Repr

structure Phase where
  start : Start
  interval : Nat
  frameLimit : Option Nat
  heads : HeadSet
  sync : SyncMode
  armWindow : Nat
  compensation : Int
  targetLevel : Nat
  feedbackWeight : Nat
  slewLimit : Nat
  smoothingWeight : Nat
  deadband : Nat
  deriving DecidableEq, Repr

structure Segment where
  control : Control
  span : Nat
  deriving DecidableEq, Repr

structure Bank where
  phases : List Phase
  ladder : List Segment
  deriving DecidableEq, Repr

structure Plan where
  bankA : Bank
  bankB : Bank
  active : BankId
  index : Nat
  entry : Nat
  remaining : Option Nat
  confirm : Nat
  swapPending : Option Nat
  deriving DecidableEq, Repr

/-! ## Light meter (spec/02) -/

/-- A completed reading (R34). -/
structure Reading where
  state : ReadingState
  bv : Int
  count : Nat
  gate : Gate
  time : Nat
  deriving DecidableEq, Repr

structure Meter where
  activity : MeterActivity
  /-- The gate selected for the next reading (R28). -/
  gateSelection : Gate
  /-- The gate and the edge that the reading in progress was started with (R26, R27). -/
  readingGate : Gate
  readingEdge : Edge
  pulses : Nat
  /-- The latest reading; `none` is state NONE (R34). -/
  latest : Option Reading
  /-- The state that the latest reading replaced; `none` is NONE (R34). -/
  previousState : Option ReadingState
  previousLevel : Option Int
  settleTimer : Option Nat
  gateTimer : Option Nat
  periodTimer : Option Nat
  deriving DecidableEq, Repr

/-! ## Ramp engine (spec/03) -/

structure TicketFlags where
  seeded : Bool
  capped : Bool
  brightLimit : Bool
  darkLimit : Bool
  noMeter : Bool
  deriving DecidableEq, Repr

/-- The last ticket summary (R42). -/
structure TicketSummary where
  sequence : Nat
  exposure : Nat
  gain : Nat
  aperture : Nat
  flags : TicketFlags
  deriving DecidableEq, Repr

structure RampRecord where
  /-- The applied need; present exactly while the record is seeded (R42). -/
  need : Option Nat
  correction : Int
  lastLevel : Option Nat
  lastTicket : Option TicketSummary
  deriving DecidableEq, Repr

/-! ## Frame unit (spec/05) -/

/-- The part of a member entry that its computed ticket writes (R87). -/
structure TicketPart where
  exposure : Nat
  gain : Nat
  aperture : Nat
  need : Nat
  mode : TriggerMode
  /-- The ticket flags, which reach the frame and the journal but no record on the line (R49; log entry 34). -/
  flags : TicketFlags
  deriving DecidableEq, Repr

structure Member where
  wakeTime : Int
  /-- The wake time has been reached; the model's own mark, for "shifted until reached" (R87; log entry 26). -/
  reached : Bool
  ticket : Option TicketPart
  level : Option Nat
  outcome : Option EntryOutcome
  deriving DecidableEq, Repr

/-- The frame in flight (R85). -/
structure Frame where
  sequence : Nat
  openTime : Nat
  due : Int
  bank : BankId
  phaseIndex : Nat
  entry : Nat
  phase : Phase
  interval : Nat
  forced : Bool
  skipped : Nat
  tierAtOpen : Tier
  /-- The member list: a head is a member when its entry is present. -/
  members : Four (Option Member)
  meter : Option (Int × ReadingState)
  sync : Sync
  outcome : Option FrameOutcome
  /-- HALT entry has aborted the frame (R92); the model's own mark, for R97. -/
  haltAborted : Bool
  /-- A SEQ_RESUME from HELD was taken during the frame (R78); the model's own mark. -/
  resumedInFlight : Bool
  deriving DecidableEq, Repr

/-- One trigger output with its two timers (R93 to R96). -/
structure Trigger where
  asserted : Bool
  /-- The level of the output, `true` for high. -/
  level : Bool
  /-- The bulb timer, in microseconds left. -/
  bulb : Option Nat
  /-- The pulse width of a TIMED trigger, in milliseconds left. -/
  pulse : Option Nat
  deriving DecidableEq, Repr

/-! ## Head sequencers (spec/06) -/

structure HeadSeq where
  state : HeadState
  hello : Option Nat
  ready : Option Nat
  result : Option Nat
  grace : Option Nat
  standby : Option Nat
  miss : Nat
  /-- The exclusion reason: present while EXCLUDED, absent while ADMITTED (R102). -/
  exclusion : Option ExclusionReason
  storageMark : Bool
  keepOff : Bool
  deriving DecidableEq, Repr

/-! ## Energy monitor (spec/07) -/

structure OnTime where
  ms : Nat
  running : Bool
  deriving DecidableEq, Repr

structure Energy where
  reading : Nat
  readingTime : Nat
  voltageTier : Tier
  floor : BudgetFloor
  effective : Tier
  spend : Nat
  onTime : Four OnTime
  measureTimer : Option Nat
  deriving DecidableEq, Repr

/-! ## Frame journal (spec/08) -/

structure HeadEntry where
  outcome : EntryOutcome
  ticket : Option TicketPart
  level : Option Nat
  deriving DecidableEq, Repr

structure JournalRecord where
  sequence : Nat
  openTime : Nat
  /-- The due time as the record's four-byte field holds it (spec/04 R67). -/
  due : Nat
  bank : BankId
  phaseIndex : Nat
  outcome : FrameOutcome
  forced : Bool
  /-- 0 is the absent skipped count (R142). -/
  skipped : Nat
  meter : Option (Int × ReadingState)
  tierAtOpen : Tier
  tierAtClose : Tier
  battery : Nat
  heads : Four (Option HeadEntry)
  deriving DecidableEq, Repr

structure Journal where
  /-- Oldest first (R141). -/
  ring : List JournalRecord
  next : Nat
  ack : Option Nat
  fillRaised : Bool
  deriving DecidableEq, Repr

/-! ## Ports (spec/09) -/

/-- What waits for a reply to leave its queue (R157). -/
inductive Effect where
  | lineSpeed (target : Port) (speed : LineSpeed)
  | portReset (target : Port)
  deriving DecidableEq, Repr

/-- A message of a transmit queue: its body, KIND first, and the effect that waits for it. -/
structure Message where
  body : List Byte
  effect : Option Effect
  deriving DecidableEq, Repr

/-- The receive assembly (R153), with the body bytes kept so far. -/
inductive Assembly where
  | hunt
  | awaitLen
  | body (len : Nat) (got : List Byte)
  | awaitChk (got : List Byte)
  deriving DecidableEq, Repr

structure ErrorCounts where
  framing : Nat
  check : Nat
  length : Nat
  truncated : Nat
  overrun : Nat
  deriving DecidableEq, Repr

structure PortState where
  /-- Oldest first; the oldest is the one being sent (R157). -/
  queue : List Message
  rx : Assembly
  interByte : Option Nat
  errors : ErrorCounts
  thresholdRaised : Bool
  speed : LineSpeed
  deriving DecidableEq, Repr

/-- The event flags of a station, bit n for event n of R160. -/
abbrev EventField := BitVec 10

structure StationState where
  flags : EventField
  enables : EventField
  deriving DecidableEq, Repr

/-! ## Settings (spec/11, section 11.3) -/

structure HeadSettings where
  lead : Nat
  helloTimeout : Nat
  readyTimeout : Nat
  resultTimeout : Nat
  standbyThreshold : Nat
  missLimit : Nat
  cycleReserve : Nat
  gainControl : Bool
  apertureControl : Bool
  current : Nat
  triggerMode : TriggerMode
  pulseWidth : Nat
  polarity : Polarity
  deriving DecidableEq, Repr

structure PortSettings where
  lineSpeed : LineSpeed
  errorThreshold : Nat
  deriving DecidableEq, Repr

structure Settings where
  key : Nat
  calibration : Int
  meterPeriod : Nat
  hysteresis : Nat
  darkFloor : Int
  settle : Nat
  edge : Edge
  shutterBase : Nat
  correctionLimit : Nat
  economyThreshold : Nat
  reserveThreshold : Nat
  haltThreshold : Nat
  tierHysteresis : Nat
  allowance : Nat
  reserveMask : HeadSet
  fillLevel : Nat
  push : Two PushMode
  port : Six PortSettings
  head : Four HeadSettings
  deriving DecidableEq, Repr

/-! ## Inputs and supply -/

/-- The BSENSE input, in quarter-millivolts (log entry 2): what it shows now, and what it will show at the measurements
after the next one. -/
structure BSense where
  level : Nat
  upcoming : List Nat
  deriving DecidableEq, Repr

/-- Main supply and reset line (spec/11 R176). -/
structure Supply where
  mainPresent : Bool
  nrstAsserted : Bool
  deriving DecidableEq, Repr

/-- The machine. `pending` is the queue of commands that wait, first in, first out. -/
structure State where
  supply : Supply
  bsense : BSense
  time : TimeBase
  sched : Scheduler
  plan : Plan
  meter : Meter
  ramps : Four RampRecord
  frame : Option Frame
  armTimer : Option Nat
  triggers : Four Trigger
  heads : Four HeadSeq
  energy : Energy
  journal : Journal
  ports : Six PortState
  stations : Two StationState
  windows : Six (Eight (BitVec 16))
  flags : Eight (Option Port)
  settings : Settings
  pending : List Instr
  deriving DecidableEq, Repr

/-- The spec gives every command an effect in every state, so no command stops the block and there is no fault. -/
inductive Fault where
  deriving DecidableEq, Repr

/-- Why a command has no meaning. -/
inductive Refusal where
  /-- Raised by an arm of `exec` for a command that has no meaning yet; no arm raises it now. Safe: the block stops. -/
  | notModelled (mnemonic : String)
  deriving DecidableEq, Repr

/-! ## Cold start values -/

def Four.all {α : Type} (a : α) : Four α := ⟨a, a, a, a⟩
def Six.all {α : Type} (a : α) : Six α := ⟨a, a, a, a, a, a⟩
def Two.all {α : Type} (a : α) : Two α := ⟨a, a⟩
def Eight.all {α : Type} (a : α) : Eight α := ⟨a, a, a, a, a, a, a, a⟩

/-- The head set {0}. -/
def headZero : HeadSet := ⟨true, false, false, false⟩

/-- The phase of the built-in default plan (spec/01 R5). -/
def defaultPhase : Phase :=
  { start := .atTime 0, interval := 300, frameLimit := none, heads := headZero, sync := .free, armWindow := 0,
    compensation := 0, targetLevel := 400, feedbackWeight := 4, slewLimit := 16, smoothingWeight := 8, deadband := 4 }

/-- The built-in default plan (spec/01 R5). -/
def defaultBank : Bank :=
  { phases := [defaultPhase], ladder := [⟨.shutter, 704⟩, ⟨.gain, 256⟩] }

/-- The plan controller at cold start (spec/01 R5). -/
def Plan.cold : Plan :=
  { bankA := defaultBank, bankB := ⟨[], []⟩, active := .a, index := 0, entry := 0, remaining := none, confirm := 0,
    swapPending := none }

/-- The settings of one head at cold start (spec/11, section 11.3). -/
def HeadSettings.default : HeadSettings :=
  { lead := 15, helloTimeout := 30, readyTimeout := 20, resultTimeout := 60, standbyThreshold := 0, missLimit := 3,
    cycleReserve := 10, gainControl := true, apertureControl := true, current := 300, triggerMode := .timed,
    pulseWidth := 100, polarity := .activeHigh }

/-- The settings at cold start (spec/11, section 11.3). -/
def Settings.default : Settings :=
  { key := 1536, calibration := 0, meterPeriod := 60, hysteresis := 16, darkFloor := -128, settle := 50, edge := .rising,
    shutterBase := 250, correctionLimit := 192, economyThreshold := 11800, reserveThreshold := 11400,
    haltThreshold := 11000, tierHysteresis := 200, allowance := 0, reserveMask := headZero, fillLevel := 192,
    push := Two.all .flag, port := Six.all ⟨.b57600, 16⟩, head := Four.all HeadSettings.default }

/-- The scheduler at cold start (spec/04 R83). -/
def Scheduler.cold : Scheduler :=
  { run := .held, anchor := none, due := none, lastDue := none, openTime := none, interval := 300, skipped := 0 }

/-- The meter at cold start, with its first reading just started: settle time 50 ms, period 60 s (spec/02 R40). -/
def Meter.cold : Meter :=
  { activity := .settling, gateSelection := .s1, readingGate := .s1, readingEdge := .rising, pulses := 0, latest := none,
    previousState := none, previousLevel := none, settleTimer := some 50, gateTimer := none, periodTimer := some 60000 }

/-- An unseeded ramp record (spec/03 R65). -/
def RampRecord.cold : RampRecord :=
  { need := none, correction := 0, lastLevel := none, lastTicket := none }

/-- An inactive ACTIVE_HIGH trigger output (spec/05 R101). -/
def Trigger.cold : Trigger :=
  { asserted := false, level := false, bulb := none, pulse := none }

/-- A head sequencer at cold start (spec/06 R125). -/
def HeadSeq.cold : HeadSeq :=
  { state := .off, hello := none, ready := none, result := none, grace := none, standby := none, miss := 0,
    exclusion := none, storageMark := false, keepOff := false }

/-- The energy monitor at cold start, its first measurement taken: 12,400 mV (log entry 3; spec/07 R139). -/
def Energy.cold : Energy :=
  { reading := 12400, readingTime := 0, voltageTier := .normal, floor := .none, effective := .normal, spend := 0,
    onTime := Four.all ⟨0, false⟩, measureTimer := some 60000 }

/-- The journal at cold start (spec/08 R151). -/
def Journal.cold : Journal :=
  { ring := [], next := 0, ack := none, fillRaised := false }

/-- A port at cold start (spec/09 R168). -/
def PortState.cold : PortState :=
  { queue := [], rx := .hunt, interByte := none, errors := ⟨0, 0, 0, 0, 0⟩, thresholdRaised := false, speed := .b57600 }

/-- The machine right after a cold start (spec/11 R177), with 12,400 mV at the battery (log entry 3). -/
def State.reset : State :=
  { supply := ⟨true, false⟩
    bsense := ⟨12400, []⟩
    time := ⟨0, false, 0, 0⟩
    sched := Scheduler.cold
    plan := Plan.cold
    meter := Meter.cold
    ramps := Four.all RampRecord.cold
    frame := none
    armTimer := none
    triggers := Four.all Trigger.cold
    heads := Four.all HeadSeq.cold
    energy := Energy.cold
    journal := Journal.cold
    ports := Six.all PortState.cold
    stations := Two.all ⟨0#10, 0#10⟩
    windows := Six.all (Eight.all 0#16)
    flags := Eight.all none
    settings := Settings.default
    pending := [] }

end Sys2Proof.Machine
end

