-- ==== Sys2Proof/Machine/Arith.lean ====
section
/-! DEFINITION. The arithmetic that the spec gives by number: clamping, the base-2 logarithm L64 (spec/02 R29), the exposure
duration (spec/03 R46) and the ceiling quotient that finds a due time (spec/04 R76). -/

namespace Sys2Proof.Machine

/-- "Clamped to [lo, hi]" (spec/00, Conventions). -/
def clampInt (lo hi v : Int) : Int := if v < lo then lo else if hi < v then hi else v

/-- "Clamped to [lo, hi]" on counts. -/
def clampNat (lo hi v : Nat) : Nat := if v < lo then lo else if hi < v then hi else v

/-- "Saturates at m" (spec/00, Conventions). -/
def saturate (m v : Nat) : Nat := min v m

/-- The least k with `a ≤ k * b`, for a positive `b`. -/
def ceilDiv (a b : Int) : Int := -((-a) / b)

/-- Milliseconds of a duration in seconds. -/
def secondsMs (s : Nat) : Nat := s * 1000

/-- T(j), j = 0..63 (spec/02 R29). -/
def logTable : List Nat :=
  [0, 1, 3, 4, 6, 7, 8, 10, 11, 12, 13, 15, 16, 17, 18, 19] ++
  [21, 22, 23, 24, 25, 26, 27, 28, 29, 30, 31, 32, 34, 35, 35, 36] ++
  [37, 38, 39, 40, 41, 42, 43, 44, 45, 46, 47, 47, 48, 49, 50, 51] ++
  [52, 52, 53, 54, 55, 56, 56, 57, 58, 59, 60, 60, 61, 62, 63, 63]

/-- The fraction index j of x, with n the position of its highest set bit (spec/02 R29). -/
def logIndex (x : Nat) : Nat :=
  let n := Nat.log2 x
  if 6 ≤ n then x / 2 ^ (n - 6) - 64 else x * 2 ^ (6 - n) - 64

/-- L64(x) for x of at least 1 (spec/02 R29); the model never asks for L64(0). -/
def log64 (x : Nat) : Nat := 64 * Nat.log2 x + logTable.getD (logIndex x) 0

/-- P(r), r = 0..63: 65536 times 2^(r/64) (spec/03 R46). -/
def powerTable : List Nat :=
  [65536, 66250, 66971, 67700, 68438, 69183, 69936, 70698, 71468, 72246, 73032, 73828, 74632, 75444, 76266, 77096] ++
  [77936, 78785, 79642, 80510, 81386, 82273, 83169, 84074, 84990, 85915, 86851, 87796, 88752, 89719, 90696, 91684] ++
  [92682, 93691, 94711, 95743, 96785, 97839, 98905, 99982, 101070, 102171, 103283, 104408, 105545, 106694, 107856, 109031] ++
  [110218, 111418, 112631, 113858, 115098, 116351, 117618, 118899, 120194, 121502, 122825, 124163, 125515, 126882, 128263,
   129660]

/-- duration(s) in microseconds for a shutter base (spec/03 R46). -/
def durationOf (base s : Nat) : Nat := base * powerTable.getD (s % 64) 65536 * 2 ^ (s / 64) / 65536

/-- The shutter cap in microseconds (spec/03 R47). -/
def shutterCap (interval reserve base : Nat) : Nat :=
  if reserve < interval then (interval - reserve) * 1000000 else base

/-- cap_stops: the largest s in 0..total whose duration is at most the cap (spec/03 R47). -/
def capStops (base cap : Nat) : Nat → Nat
  | 0 => 0
  | n + 1 => if durationOf base (n + 1) ≤ cap then n + 1 else capStops base cap n

/-- Integer part toward zero of `weight` sixteenths of d (spec/03 R52, R59). -/
def sixteenths (d : Int) (weight : Nat) : Int := Int.tdiv (d * weight) 16

end Sys2Proof.Machine
end

