-- ==== Sys2Proof/Machine/Bytes.lean ====
section
/-! DEFINITION. How values stand in a reply: the codes of the enumerated fields (spec/01 R3, R4; spec/09 R152, R158, R165;
spec/11 section 11.3) and the layout of numeric and optional fields (spec/09 R158). -/

namespace Sys2Proof.Machine

/-! ## Fields -/

/-- The low `n` bytes of a number in two's complement, least significant first (spec/00, Conventions). -/
def leBytes : Nat → Int → List Byte
  | 0, _ => []
  | n + 1, v => BitVec.ofInt 8 v :: leBytes n (v / 256)

/-- `n` bytes of 0. -/
def zeroBytes (n : Nat) : List Byte := List.replicate n 0#8

/-- A numeric field of one byte. -/
def f1 (v : Nat) : List Byte := leBytes 1 v
/-- A numeric field of two bytes. -/
def f2 (v : Nat) : List Byte := leBytes 2 v
/-- A numeric field of four bytes. -/
def f4 (v : Nat) : List Byte := leBytes 4 v
/-- A time on the count: its value mod 4,294,967,296 (spec/04 R67). -/
def fTime (t : Int) : List Byte := leBytes 4 t

/-- A field that may be absent: presence byte, then the value bytes, 0 while absent (spec/09 R158). -/
def optField (n : Nat) : Option Int → List Byte
  | none => 0#8 :: zeroBytes n
  | some v => 1#8 :: leBytes n v

/-- A field of `n` bytes that may be absent, for a count. -/
def optNat (n : Nat) (v : Option Nat) : List Byte := optField n (v.map Int.ofNat)

/-- NO 00h, YES 01h, and every other pair of two values (spec/09 R165). -/
def fBool (b : Bool) : List Byte := [if b then 1#8 else 0#8]

/-- A head set or an arm set as a bit field (spec/09 R158, R166). -/
def headSetByte (g : HeadSet) : Byte :=
  (if g.h0 then 1#8 else 0#8) ||| (if g.h1 then 2#8 else 0#8) ||| (if g.h2 then 4#8 else 0#8) ||| (if g.h3 then 8#8 else 0#8)

/-- The head set that the four low-order bits of a byte name (spec/01 R3). -/
def headSetOfByte (b : Byte) : HeadSet := ⟨b.getLsbD 0, b.getLsbD 1, b.getLsbD 2, b.getLsbD 3⟩

/-! ## Indices -/

/-- Heads by number. -/
def headOfNat : Nat → Option Head
  | 0 => some .h0
  | 1 => some .h1
  | 2 => some .h2
  | 3 => some .h3
  | _ => none

def headCode : Head → Nat
  | .h0 => 0
  | .h1 => 1
  | .h2 => 2
  | .h3 => 3

/-- The head port of a head. -/
def headPort : Head → Port
  | .h0 => .h0
  | .h1 => .h1
  | .h2 => .h2
  | .h3 => .h3

/-- The head of a head port. -/
def portHead? : Port → Option Head
  | .h0 => some .h0
  | .h1 => some .h1
  | .h2 => some .h2
  | .h3 => some .h3
  | .ul => none
  | .sv => none

/-- The station of a station port. -/
def portStation? : Port → Option Station
  | .ul => some .ul
  | .sv => some .sv
  | .h0 => none
  | .h1 => none
  | .h2 => none
  | .h3 => none

def stationPort : Station → Port
  | .ul => .ul
  | .sv => .sv

/-- Ports by index: 0 to 3 for H0 to H3, 4 for UL, 5 for SV (spec/09 R156). -/
def portOfNat : Nat → Option Port
  | 0 => some .h0
  | 1 => some .h1
  | 2 => some .h2
  | 3 => some .h3
  | 4 => some .ul
  | 5 => some .sv
  | _ => none

def portCode : Port → Nat
  | .h0 => 0
  | .h1 => 1
  | .h2 => 2
  | .h3 => 3
  | .ul => 4
  | .sv => 5

/-- Words of a window and shared flags by index 0 to 7 (spec/10 R169, R172). -/
def idxOfNat : Nat → Option Idx
  | 0 => some .i0
  | 1 => some .i1
  | 2 => some .i2
  | 3 => some .i3
  | 4 => some .i4
  | 5 => some .i5
  | 6 => some .i6
  | 7 => some .i7
  | _ => none

/-- A holder as its port index, or FFh for none (spec/10 R172). -/
def holderByte : Option Port → Byte
  | none => 0xFF#8
  | some p => BitVec.ofNat 8 (portCode p)

/-! ## Codes -/

/-- The reply statuses (spec/09 R158). -/
inductive Status where
  | ok | clamped | defaulted | idle | halted | busy | notPermitted | notHolder | invalid | notExpected | late | gap | full
  | unknownKind | badIndex
  deriving DecidableEq, Repr

def Status.code : Status → Byte
  | .ok => 0x00#8
  | .clamped => 0x01#8
  | .defaulted => 0x02#8
  | .idle => 0x03#8
  | .halted => 0x04#8
  | .busy => 0x10#8
  | .notPermitted => 0x11#8
  | .notHolder => 0x12#8
  | .invalid => 0x13#8
  | .notExpected => 0x14#8
  | .late => 0x15#8
  | .gap => 0x16#8
  | .full => 0x17#8
  | .unknownKind => 0x18#8
  | .badIndex => 0x19#8

/-- The reasons that follow INVALID (spec/01 R8). -/
inductive Reason where
  | emptyPlan | badEntry | limitChain | ladderTotal | ladderShutter | noShutter | emptyLadder
  | emptyHeads | badStartKind | badSyncMode | badControl | badSegmentCount
  deriving DecidableEq, Repr

def Reason.code : Reason → Byte
  | .emptyPlan => 0x01#8
  | .badEntry => 0x02#8
  | .limitChain => 0x03#8
  | .ladderTotal => 0x04#8
  | .ladderShutter => 0x05#8
  | .noShutter => 0x06#8
  | .emptyLadder => 0x07#8
  | .emptyHeads => 0x21#8
  | .badStartKind => 0x22#8
  | .badSyncMode => 0x23#8
  | .badControl => 0x24#8
  | .badSegmentCount => 0x25#8

def HeadState.code : HeadState → Nat
  | .off => 0
  | .waking => 1
  | .ticketed => 2
  | .armed => 3
  | .exposing => 4
  | .reporting => 5
  | .closing => 6
  | .standby => 7

def EntryOutcome.code : EntryOutcome → Nat
  | .done => 0
  | .noHello => 1
  | .noReady => 2
  | .noResult => 3
  | .abandoned => 4
  | .aborted => 5
  | .reset => 6
  | .powerCut => 7
  | .lostPower => 8

/-- An entry outcome is sent as FFh while absent (spec/09 R158, R165). -/
def outcomeByte : Option EntryOutcome → Byte
  | none => 0xFF#8
  | some o => BitVec.ofNat 8 o.code

def FrameOutcome.code : FrameOutcome → Nat
  | .ok => 0
  | .partially => 1
  | .failed => 2
  | .abandonedSync => 3
  | .aborted => 4
  | .lostPower => 5

def ReadingState.code : ReadingState → Nat
  | .dark => 1
  | .saturated => 2
  | .stable => 3
  | .unstable => 4

/-- A reading state, NONE among them (spec/09 R165). -/
def readingStateCode : Option ReadingState → Nat
  | none => 0
  | some r => r.code

def Tier.code : Tier → Nat
  | .normal => 0
  | .economy => 1
  | .reserve => 2
  | .halt => 3

def BankId.code : BankId → Nat
  | .a => 0
  | .b => 1

def RunState.code : RunState → Nat
  | .held => 0
  | .running => 1

def AnchorKind.code : AnchorKind → Nat
  | .frame => 0
  | .start => 1

def NoDueReason.code : NoDueReason → Nat
  | .none => 0
  | .held => 1
  | .inFrame => 2
  | .exhausted => 3
  | .halt => 4

/-- The FREE stages and the LOCKED sync states each count from 00h (spec/09 R165). -/
def Sync.code : Sync → Nat
  | .beforeD => 0
  | .afterD => 1
  | .waiting => 0
  | .window => 1
  | .fired => 2
  | .abandoned => 3
  | .aborted => 4

def MeterActivity.code : MeterActivity → Nat
  | .idle => 0
  | .settling => 1
  | .gating => 2

def Gate.code : Gate → Nat
  | .ms250 => 0
  | .s1 => 1
  | .s4 => 2

def ExclusionReason.code : ExclusionReason → Nat
  | .misses => 0
  | .storage => 1

def BudgetFloor.code : BudgetFloor → Nat
  | .none => 0
  | .economy => 1

def SyncMode.code : SyncMode → Nat
  | .free => 0
  | .locked => 1

def syncModeOfByte (b : Byte) : Option SyncMode :=
  if b = 0#8 then some .free else if b = 1#8 then some .locked else none

def Control.code : Control → Nat
  | .shutter => 0
  | .gain => 1
  | .aperture => 2

def controlOfByte (b : Byte) : Option Control :=
  if b = 0#8 then some .shutter else if b = 1#8 then some .gain else if b = 2#8 then some .aperture else none

def TriggerMode.code : TriggerMode → Nat
  | .timed => 0
  | .bulb => 1

def Polarity.code : Polarity → Nat
  | .activeHigh => 0
  | .activeLow => 1

def PushMode.code : PushMode → Nat
  | .flag => 0
  | .push => 1

def edgeCode : Edge → Nat
  | .rising => 0
  | .falling => 1

/-- The codes of the line speeds (spec/09 R152). -/
def LineSpeed.code : LineSpeed → Nat
  | .b9600 => 0
  | .b19200 => 1
  | .b57600 => 2
  | .b115200 => 3

/-- The ticket flags byte (spec/09 R165). -/
def ticketFlagsByte (f : TicketFlags) : Byte :=
  (if f.seeded then 1#8 else 0#8) ||| (if f.capped then 2#8 else 0#8) ||| (if f.brightLimit then 4#8 else 0#8)
    ||| (if f.darkLimit then 8#8 else 0#8) ||| (if f.noMeter then 16#8 else 0#8)

/-- The start kind code of a phase (spec/01 R3). -/
def startCode : Start → Nat
  | .atTime _ => 0
  | .onDarker _ _ => 1
  | .onBrighter _ _ => 2
  | .afterLimit => 3

def startTime? : Start → Option Nat
  | .atTime t => some t
  | .onDarker _ _ | .onBrighter _ _ | .afterLimit => none

def threshold? : Start → Option Int
  | .onDarker t _ | .onBrighter t _ => some t
  | .atTime _ | .afterLimit => none

def confirm? : Start → Option Nat
  | .onDarker _ c | .onBrighter _ c => some c
  | .atTime _ | .afterLimit => none

/-- The presence byte of a phase record that is read (spec/09 R166). -/
def phasePresence (ph : Phase) : Byte :=
  (if ph.frameLimit.isSome then 1#8 else 0#8) ||| (if (startTime? ph.start).isSome then 2#8 else 0#8)
    ||| (if (threshold? ph.start).isSome then 4#8 else 0#8) ||| (if (confirm? ph.start).isSome then 8#8 else 0#8)

/-- The 26 bytes of a phase record that is read; an absent field reads as 0 (spec/09 R166). -/
def phaseBytes (ph : Phase) : List Byte :=
  f1 (startCode ph.start) ++ [phasePresence ph] ++ f4 ((startTime? ph.start).getD 0)
    ++ leBytes 2 ((threshold? ph.start).getD 0) ++ f1 ((confirm? ph.start).getD 0) ++ f4 ph.interval
    ++ f2 (ph.frameLimit.getD 0) ++ [headSetByte ph.heads] ++ f1 ph.sync.code ++ f1 ph.armWindow
    ++ leBytes 2 ph.compensation ++ f2 ph.targetLevel ++ f1 ph.feedbackWeight ++ f1 ph.slewLimit ++ f1 ph.smoothingWeight
    ++ f1 ph.deadband

/-- Eight slots of a ladder that is read: a slot at or beyond the count reads as 0 (spec/09 R166). -/
def slotBytes : Nat → List Segment → List Byte
  | 0, _ => []
  | n + 1, [] => zeroBytes 3 ++ slotBytes n []
  | n + 1, g :: rest => f1 g.control.code ++ f2 g.span ++ slotBytes n rest

/-- A ladder that is read: segment count, then eight slots (spec/09 R166). -/
def ladderBytes (l : List Segment) : List Byte := f1 l.length ++ slotBytes Config.ladderCapacity l

/-- The ticket part of a head entry of a journal record: an absent part reads as 0 (spec/09 R167). -/
def ticketPartBytes : Option TicketPart → List Byte
  | none => zeroBytes 10
  | some t => f4 t.exposure ++ f2 t.gain ++ f2 t.aperture ++ f2 t.need

/-- One head entry of a journal record, 15 bytes (spec/09 R167). -/
def headEntryBytes (h : Head) (e : HeadEntry) : List Byte :=
  f1 (headCode h) ++ f1 e.outcome.code
    ++ [(if e.ticket.isSome then 1#8 else 0#8) ||| (if e.level.isSome then 2#8 else 0#8)]
    ++ ticketPartBytes e.ticket ++ f2 (e.level.getD 0)

def optEntryBytes (h : Head) : Option HeadEntry → List Byte
  | none => []
  | some e => headEntryBytes h e

/-- How many of four optional things are present. -/
def presentCount {α : Type} (v : Four (Option α)) : Nat :=
  v.h0.isSome.toNat + v.h1.isSome.toNat + v.h2.isSome.toNat + v.h3.isSome.toNat

/-- The bytes of a journal record, 25 and then 15 for each head entry (spec/09 R167). -/
def recordBytes (r : JournalRecord) : List Byte :=
  f4 r.sequence ++ f4 r.openTime ++ f4 r.due ++ f1 r.bank.code ++ f1 r.phaseIndex ++ f1 r.outcome.code
    ++ [(if r.forced then 1#8 else 0#8) ||| (if r.skipped = 0 then 0#8 else 2#8)
        ||| (if r.meter.isSome then 4#8 else 0#8) ||| BitVec.ofNat 8 (r.tierAtOpen.code * 8)]
    ++ f2 r.skipped
    ++ (match r.meter with
        | none => zeroBytes 3
        | some (bv, st) => leBytes 2 bv ++ f1 st.code)
    ++ f1 r.tierAtClose.code ++ f2 r.battery ++ f1 (presentCount r.heads)
    ++ optEntryBytes .h0 r.heads.h0 ++ optEntryBytes .h1 r.heads.h1 ++ optEntryBytes .h2 r.heads.h2
    ++ optEntryBytes .h3 r.heads.h3

end Sys2Proof.Machine
end

