-- ==== Sys2Proof/Machine/Flags.lean ====
section
/-! DEFINITION. Station event flags with ATTN (spec/09 R160, R161), shared flags (spec/10 R172 to R174), and the outputs and
conditions that the spec derives from other state. -/

namespace Sys2Proof.Machine

/-- The bit position of an event (spec/09 R160). -/
def Event.position : Event → Nat
  | .frameClosed => 0
  | .journalFill => 1
  | .phaseChanged => 2
  | .planSwapped => 3
  | .tierChanged => 4
  | .headExcluded => 5
  | .lineErrors => 6
  | .bulletinChanged => 7
  | .clockSet => 8
  | .resumed => 9

/-- The event field that holds one event. -/
def Event.mask (e : Event) : EventField := BitVec.twoPow 10 e.position

/-- Whether an event field holds an event. -/
def hasEvent (field : EventField) (e : Event) : Bool := field.getLsbD e.position

/-- An event field as the two bytes of a reply; bits 10 to 15 are 0 (spec/09 R160). -/
def eventBytes (field : EventField) : List Byte := f2 field.toNat

/-- Change one station's flags and enables. -/
def State.modStation (s : State) (st : Station) (f : StationState → StationState) : State :=
  { s with stations := s.stations.set st (f (s.stations.get st)) }

/-- An event raised at a station sets the flag of its name, whatever the enables (spec/09 R160). -/
def State.raiseAt (s : State) (st : Station) (e : Event) : State :=
  s.modStation st (fun x => { x with flags := x.flags ||| e.mask })

/-- An event raised at both stations (spec/09 R160). -/
def State.raiseBoth (s : State) (e : Event) : State := (s.raiseAt .ul e).raiseAt .sv e

/-- The part runs: main supply present and NRST high (spec/11 R176). -/
def State.runs (s : State) : Bool := s.supply.mainPresent && !s.supply.nrstAsserted

/-- A station's ATTN output, `true` while pulled low: some flag is set whose enable is set (spec/09 R161); released while
the part is stopped (spec/11 R176). -/
def State.attn (s : State) (st : Station) : Bool :=
  s.runs && ((s.stations.get st).flags &&& (s.stations.get st).enables != 0#10)

/-- The rail of a head, `true` for ON: OFF exactly in OFF (spec/06 R102). -/
def State.rail (s : State) (h : Head) : Bool := (s.heads.get h).state != .off

/-- LSUPEN: on exactly while the meter is SETTLING or GATING (spec/02 R26). -/
def State.lsupen (s : State) : Bool := s.meter.activity != .idle

/-- The phase condition: EXHAUSTED exactly while the remaining-frame count is 0 (spec/01 R2). -/
def State.exhausted (s : State) : Bool := s.plan.remaining == some 0

/-- The time of day (spec/04 R67). -/
def State.timeOfDay (s : State) : Nat := s.time.count % secondsPerDay

/-- Now, as a time on the count (spec/00, Conventions). -/
def State.now (s : State) : Int := s.time.count

/-- Why the due time is absent: the first reason of spec/04 R73 that holds. -/
def State.noDueReason (s : State) : NoDueReason :=
  if s.sched.due.isSome then .none
  else if s.sched.run = .held then .held
  else if s.frame.isSome then .inFrame
  else if s.exhausted then .exhausted
  else if s.energy.effective = .halt then .halt
  else .none

/-- A shared flag that `p` holds becomes clear; another keeps its holder (spec/10 R174). -/
def releaseHolder (p : Port) (holder : Option Port) : Option Port := if holder = some p then none else holder

/-- Every shared flag held by a port is released (spec/10 R174). -/
def releaseFlags (p : Port) (v : Eight (Option Port)) : Eight (Option Port) :=
  ⟨releaseHolder p v.i0, releaseHolder p v.i1, releaseHolder p v.i2, releaseHolder p v.i3,
   releaseHolder p v.i4, releaseHolder p v.i5, releaseHolder p v.i6, releaseHolder p v.i7⟩

/-- The eight holders as a reply carries them (spec/10 R174). -/
def holderBytes (v : Eight (Option Port)) : List Byte :=
  [holderByte v.i0, holderByte v.i1, holderByte v.i2, holderByte v.i3,
   holderByte v.i4, holderByte v.i5, holderByte v.i6, holderByte v.i7]

end Sys2Proof.Machine
end

