-- ==== Sys2Proof/Machine/Ops.lean ====
section
/-! DEFINITION. The operations that several commands share: changing one head, trigger, port, member; the transmit queue and
the port reset; charge, tiers and battery measurement; trigger outputs; rail on and rail off; misses and exclusion. -/

namespace Sys2Proof.Machine

/-! ## Changing one of several -/

/-- The same step for heads 0 to 3, in ascending order. -/
def forHeads (f : Head → State → State) (s : State) : State := f .h3 (f .h2 (f .h1 (f .h0 s)))

/-- A condition on every head. -/
def allHeads (p : Head → Bool) : Bool := p .h0 && p .h1 && p .h2 && p .h3

/-- A condition on some head. -/
def anyHead (p : Head → Bool) : Bool := p .h0 || p .h1 || p .h2 || p .h3

/-- The set of the heads with a property. -/
def headSetOf (p : Head → Bool) : HeadSet := ⟨p .h0, p .h1, p .h2, p .h3⟩

def State.modHead (s : State) (h : Head) (f : HeadSeq → HeadSeq) : State :=
  { s with heads := s.heads.set h (f (s.heads.get h)) }

def State.modTrigger (s : State) (h : Head) (f : Trigger → Trigger) : State :=
  { s with triggers := s.triggers.set h (f (s.triggers.get h)) }

def State.modPort (s : State) (p : Port) (f : PortState → PortState) : State :=
  { s with ports := s.ports.set p (f (s.ports.get p)) }

def State.modRamp (s : State) (h : Head) (f : RampRecord → RampRecord) : State :=
  { s with ramps := s.ramps.set h (f (s.ramps.get h)) }

def State.modOnTime (s : State) (h : Head) (f : OnTime → OnTime) : State :=
  { s with energy := { s.energy with onTime := s.energy.onTime.set h (f (s.energy.onTime.get h)) } }

/-- A head's entry in the frame in flight, if the head is a member (spec/05 R85). -/
def State.member (s : State) (h : Head) : Option Member :=
  match s.frame with
  | none => none
  | some f => f.members.get h

/-- Change the frame in flight, if there is one. -/
def State.modFrame (s : State) (g : Frame → Frame) : State :=
  match s.frame with
  | none => s
  | some f => { s with frame := some (g f) }

/-- Change a member entry of the frame in flight. -/
def State.modMember (s : State) (h : Head) (g : Member → Member) : State :=
  s.modFrame (fun f => { f with members := f.members.set h ((f.members.get h).map g) })

/-- The settings of one head. -/
def State.headSettings (s : State) (h : Head) : HeadSettings := s.settings.head.get h

/-! ## The transmit queue and the port reset -/

/-- Whether a transmit queue has a free place (spec/09 R157). -/
def State.hasPlace (s : State) (p : Port) : Bool := decide ((s.ports.get p).queue.length < Config.queueCapacity)

/-- A message takes the last place of a queue; a full queue takes none (spec/09 R157). -/
def State.enqueue (s : State) (p : Port) (m : Message) : State :=
  if s.hasPlace p then s.modPort p (fun x => { x with queue := x.queue ++ [m] }) else s

/-- The receive assembly returns to HUNT and its inter-byte timer stops (spec/09 R153). -/
def State.rxToHunt (s : State) (p : Port) : State :=
  s.modPort p (fun x => { x with rx := .hunt, interByte := none })

/-- The port of a port reset after it: queue cleared, HUNT, error counts 0, marker CLEAR; the line speed is kept
(spec/09 R163). -/
def resetPortState (x : PortState) : PortState :=
  { x with queue := [], rx := .hunt, interByte := none, errors := ⟨0, 0, 0, 0, 0⟩, thresholdRaised := false }

/-- At a station port every event flag is cleared and the enable set kept (spec/09 R163). -/
def State.clearEvents (s : State) (p : Port) : State :=
  match portStation? p with
  | some st => s.modStation st (fun x => { x with flags := 0#10 })
  | none => s

/-- What a port reset does to any port: the queue, the assembly, the error counts, a station's event flags and the shared
flags that the port holds (spec/09 R163). -/
def State.resetPort (s : State) (p : Port) : State :=
  let t := (s.modPort p resetPortState).clearEvents p
  { t with flags := releaseFlags p t.flags }

/-! ## Energy -/

/-- The severity of a tier (spec/07 R126). -/
def Tier.rank : Tier → Nat
  | .normal => 0
  | .economy => 1
  | .reserve => 2
  | .halt => 3

/-- The worse of two tiers (spec/07 R126). -/
def worse (a b : Tier) : Tier := if a.rank < b.rank then b else a

/-- A budget floor of NONE ranks with NORMAL (spec/07 R126). -/
def BudgetFloor.tier : BudgetFloor → Tier
  | .none => .normal
  | .economy => .economy

/-- The budget floor from the allowance and the spend (spec/07 R131). -/
def floorOf (allowance spend : Nat) : BudgetFloor :=
  if 0 < allowance ∧ allowance ≤ spend then .economy else .none

/-- The budget floor is judged (spec/07 R131). -/
def State.judgeFloor (s : State) : State :=
  { s with energy := { s.energy with floor := floorOf s.settings.allowance s.energy.spend } }

/-- The effective tier is judged: the worse of the voltage tier and the budget floor, with TIER_CHANGED at both stations
when it differs from the one standing (spec/07 R133). -/
def State.judgeTier (s : State) : State :=
  let t := worse s.energy.voltageTier s.energy.floor.tier
  if t = s.energy.effective then s
  else ({ s with energy := { s.energy with effective := t } } : State).raiseBoth .tierChanged

/-- The charge of an accounting, in mAs (spec/07 R130). -/
def chargeOf (ms current : Nat) : Nat := ms * current / 1000

/-- The charge of a head joins the spend and its accumulator becomes 0 (spec/07 R130). -/
def State.addCharge (s : State) (h : Head) : State :=
  let spend := saturate Config.maxCharge (s.energy.spend + chargeOf (s.energy.onTime.get h).ms (s.headSettings h).current)
  ({ s with energy := { s.energy with spend := spend } } : State).modOnTime h (fun o => { o with ms := 0 })

/-- The accounting of one head: charge, budget floor, effective tier (spec/07 R130). -/
def State.account (s : State) (h : Head) : State := (s.addCharge h).judgeFloor.judgeTier

/-- The least severe tier that a voltage obliges, for thresholds each raised by `margin` (spec/07 R128). -/
def tierAt (st : Settings) (margin v : Nat) : Tier :=
  if v < st.haltThreshold + margin then .halt
  else if v < st.reserveThreshold + margin then .reserve
  else if v < st.economyThreshold + margin then .economy
  else .normal

/-- The voltage tier after a measurement, from the one standing before it (spec/07 R128). -/
def judgeVoltage (st : Settings) (standing : Tier) (v : Nat) : Tier :=
  let descent := tierAt st 0 v
  let ascent := tierAt st st.tierHysteresis v
  if standing.rank < descent.rank then descent
  else if ascent.rank < standing.rank then ascent
  else standing

/-- The battery voltage in millivolts behind the 1:4 divider, cut at 16,383 (spec/07 R127; log entry 2). -/
def batteryMillivolts (level : Nat) : Nat := min level Config.maxMillivolts

/-- What BSENSE shows after a measurement has been taken. -/
def BSense.advance (b : BSense) : BSense :=
  match b.upcoming with
  | [] => b
  | v :: rest => { level := v, upcoming := rest }

/-- BSENSE as a command's operand shows it: an empty list leaves the input as it is. -/
def BSense.present (b : BSense) : List Nat → BSense
  | [] => b
  | v :: rest => { level := v, upcoming := rest }

/-- The reading, its time and the voltage tier of a battery measurement (spec/07 R127). -/
def State.takeReading (s : State) : State :=
  let v := batteryMillivolts s.bsense.level
  { s with
    bsense := s.bsense.advance
    energy := { s.energy with
      reading := v, readingTime := s.time.count, voltageTier := judgeVoltage s.settings s.energy.voltageTier v } }

/-- A battery measurement: reading, voltage tier, effective tier (spec/07 R127). -/
def State.measure (s : State) : State := s.takeReading.judgeTier

/-! ## Trigger outputs -/

/-- The level of an asserted output, `true` for high (spec/05 R93). -/
def Polarity.activeLevel : Polarity → Bool
  | .activeHigh => true
  | .activeLow => false

/-- The trigger is asserted at its polarity (spec/05 R93). -/
def assertTrigger (pol : Polarity) (bulb : Nat) (pulse : Option Nat) (_t : Trigger) : Trigger :=
  { asserted := true, level := pol.activeLevel, bulb := some bulb, pulse := pulse }

/-- The trigger is released to the inactive level of the polarity as it stands (spec/05 R93). -/
def releaseTrigger (pol : Polarity) (t : Trigger) : Trigger :=
  { t with asserted := false, level := !pol.activeLevel, pulse := none }

/-- The release of a head's trigger output. -/
def State.release (s : State) (h : Head) : State := s.modTrigger h (releaseTrigger (s.headSettings h).polarity)

/-- The bulb timer of a head is stopped (spec/05 R94). -/
def State.stopBulb (s : State) (h : Head) : State := s.modTrigger h (fun t => { t with bulb := none })

/-! ## Head states and the rail -/

/-- A head enters a state: every timer of the state it leaves is stopped (spec/06 R102). -/
def HeadSeq.enter (x : HeadSeq) (st : HeadState) : HeadSeq :=
  { x with state := st, hello := none, ready := none, result := none, grace := none, standby := none }

/-- A head enters CLOSING with its grace timer of 2 s (spec/06 R116). -/
def HeadSeq.enterClosing (x : HeadSeq) : HeadSeq := { x.enter .closing with grace := some Config.graceMs }

/-- A rail on: the accumulator's marker becomes RUNNING (spec/06 R103, spec/07 R129). The head state that follows is the
caller's. -/
def State.railOn (s : State) (h : Head) : State := s.modOnTime h (fun o => { o with running := true })

/-- What a rail off tells the Energy Monitor: the accumulator stops and is accounted. Nothing when the rail is already OFF
(spec/06 R103, spec/07 R129). -/
def State.stopOnTime (s : State) (h : Head) : State :=
  if s.rail h then (s.modOnTime h (fun o => { o with running := false })).account h else s

/-- A rail off: on-time accounted, trigger inactive, bulb timer stopped, head port reset, head OFF. The keep-off mark ends
with the head's part in the frame (spec/06 R103; log entry 8). -/
def State.railOff (s : State) (h : Head) : State :=
  ((((s.stopOnTime h).release h).stopBulb h).resetPort (headPort h)).modHead h
    (fun x => { x.enter .off with keepOff := false })

/-- A head that is ADMITTED becomes EXCLUDED, with HEAD_EXCLUDED at both stations; one already EXCLUDED keeps its reason
(spec/06 R121, R122). -/
def State.exclude (s : State) (h : Head) (r : ExclusionReason) : State :=
  if (s.heads.get h).exclusion.isSome then s
  else (s.modHead h (fun x => { x with exclusion := some r })).raiseBoth .headExcluded

/-- A head whose miss count is at its limit is excluded with reason MISSES; a head in STANDBY then goes OFF (spec/06 R117,
R121). -/
def State.judgeMisses (s : State) (h : Head) : State :=
  if (s.heads.get h).exclusion.isNone ∧ (s.headSettings h).missLimit ≤ (s.heads.get h).miss then
    let t := s.exclude h .misses
    if (s.heads.get h).state = .standby then t.railOff h else t
  else s

/-- A miss: the count rises, saturating at 15, and is judged against the limit (spec/06 R120, R121). -/
def State.countMiss (s : State) (h : Head) : State :=
  (s.modHead h (fun x => { x with miss := saturate Config.maxMisses (x.miss + 1) })).judgeMisses h

/-- The storage mark is applied as the head leaves CLOSING (spec/06 R122). -/
def State.applyStorageMark (s : State) (h : Head) : State :=
  if (s.heads.get h).storageMark then (s.modHead h (fun x => { x with storageMark := false })).exclude h .storage else s

/-- A readmission: ADMITTED, reason absent, miss count 0, storage mark clear (spec/06 R123). -/
def State.readmit (s : State) (h : Head) : State :=
  s.modHead h (fun x => { x with exclusion := none, miss := 0, storageMark := false })

/-- A member's outcome is decided once; a later decision changes nothing (spec/05 R87). -/
def State.decideEntry (s : State) (h : Head) (o : EntryOutcome) : State :=
  s.modMember h (fun m => if m.outcome.isNone then { m with outcome := some o } else m)

/-- The head is a member whose entry outcome is absent. -/
def State.undecided (s : State) (h : Head) : Bool :=
  match s.member h with
  | none => false
  | some m => m.outcome.isNone

/-! ## Errors of a port -/

/-- One more error of a kind, saturating at 255 (spec/09 R154). -/
def ErrorCounts.bump (e : ErrorCounts) : LineError → ErrorCounts
  | .framing => { e with framing := saturate Config.maxErrors (e.framing + 1) }
  | .check => { e with check := saturate Config.maxErrors (e.check + 1) }
  | .length => { e with length := saturate Config.maxErrors (e.length + 1) }
  | .truncated => { e with truncated := saturate Config.maxErrors (e.truncated + 1) }
  | .overrun => { e with overrun := saturate Config.maxErrors (e.overrun + 1) }

/-- The total of a port (spec/09 R155). -/
def ErrorCounts.total (e : ErrorCounts) : Nat := e.framing + e.check + e.length + e.truncated + e.overrun

/-- The threshold marker is judged; LINE_ERRORS at both stations when it becomes RAISED (spec/09 R155). -/
def State.judgeThreshold (s : State) (p : Port) : State :=
  if (s.ports.get p).thresholdRaised = false ∧ (s.settings.port.get p).errorThreshold ≤ (s.ports.get p).errors.total then
    (s.modPort p (fun x => { x with thresholdRaised := true })).raiseBoth .lineErrors
  else s

/-- An error is counted; the marker is judged when the count has increased (spec/09 R154, R155). -/
def State.countError (s : State) (p : Port) (k : LineError) : State :=
  let errors := (s.ports.get p).errors
  if errors.bump k = errors then s
  else (s.modPort p (fun x => { x with errors := errors.bump k })).judgeThreshold p

end Sys2Proof.Machine
end

