-- ==== Sys2Proof/Machine/JournalUnit.lean ====
section
/-! DEFINITION. The Frame Journal: the unacknowledged count, the fill marker, the append with its deliveries, the restart and
the summary (spec/08). -/

namespace Sys2Proof.Machine

/-- A sequence lies above the acknowledged mark; every sequence does while the mark is none (spec/08 R141). -/
def aboveMark (ack : Option Nat) (sequence : Nat) : Bool :=
  match ack with
  | none => true
  | some m => decide (m < sequence)

/-- The unacknowledged count (spec/08 R141). -/
def Journal.unacknowledged (j : Journal) : Nat := j.ring.countP (fun r => aboveMark j.ack r.sequence)

/-- The oldest sequence (spec/08 R141). -/
def Journal.oldest (j : Journal) : Option Nat := j.ring.head?.map (·.sequence)

/-- The newest sequence (spec/08 R141). -/
def Journal.newest (j : Journal) : Option Nat := j.ring.getLast?.map (·.sequence)

/-- The fill marker is judged; JOURNAL_FILL at both stations when it becomes RAISED (spec/08 R146). -/
def State.judgeFill (s : State) : State :=
  if s.settings.fillLevel ≤ s.journal.unacknowledged then
    if s.journal.fillRaised then s
    else ({ s with journal := { s.journal with fillRaised := true } } : State).raiseBoth .journalFill
  else { s with journal := { s.journal with fillRaised := false } }

/-- The journal restarts at an open that finds the counter at 4,294,967,295 (spec/08 R143). -/
def Journal.restart (j : Journal) : Journal :=
  if j.next = 4294967295 then { ring := [], next := 0, ack := none, fillRaised := false } else j

/-- The head entry of a member at the close; the result level only of a DONE (spec/08 R142). -/
def entryOf (m : Member) : HeadEntry :=
  let o := m.outcome.getD .lostPower
  { outcome := o, ticket := m.ticket, level := if o = .done then m.level else none }

/-- The value of a time in a four-byte field (spec/04 R67). -/
def timeField (t : Int) : Nat := (t % countModulus).toNat

/-- The journal record of a closed frame, with the tier and the battery reading as they stand (spec/08 R142, R144). -/
def State.recordOf (s : State) (f : Frame) : JournalRecord :=
  { sequence := f.sequence, openTime := f.openTime, due := timeField f.due, bank := f.bank, phaseIndex := f.phaseIndex,
    outcome := f.outcome.getD .failed, forced := f.forced, skipped := f.skipped, meter := f.meter,
    tierAtOpen := f.tierAtOpen, tierAtClose := s.energy.effective, battery := s.energy.reading,
    heads := ⟨f.members.h0.map entryOf, f.members.h1.map entryOf, f.members.h2.map entryOf, f.members.h3.map entryOf⟩ }

/-- The ring after an append: the oldest record gives way when the ring is full (spec/08 R144). -/
def appendRing (ring : List JournalRecord) (r : JournalRecord) : List JournalRecord :=
  (if Config.ringCapacity ≤ ring.length then ring.drop 1 else ring) ++ [r]

/-- The JOURNAL_PUSH message (spec/09 R158, R167). -/
def pushMessage (unacknowledged : Nat) (r : JournalRecord) : Message :=
  { body := 0xE1#8 :: 0x00#8 :: (f2 unacknowledged ++ recordBytes r), effect := none }

/-- The delivery of a new record to one station: FRAME_CLOSED, or a JOURNAL_PUSH that finds a place (spec/08 R147). -/
def State.deliver (s : State) (r : JournalRecord) (st : Station) : State :=
  if s.settings.push.get st = .push ∧ s.hasPlace (stationPort st) then
    s.enqueue (stationPort st) (pushMessage s.journal.unacknowledged r)
  else s.raiseAt st .frameClosed

/-- The append of a closed frame (spec/08 R144). -/
def State.journalClose (s : State) (f : Frame) : State :=
  let r := s.recordOf f
  let t := ({ s with journal := { s.journal with ring := appendRing s.journal.ring r } } : State).judgeFill
  (t.deliver r .ul).deliver r .sv

/-- The journal summary of a reply (spec/08 R148; spec/09 R167). -/
def Journal.summary (j : Journal) : List Byte :=
  f4 (j.oldest.getD 0) ++ f4 (j.newest.getD 0)
    ++ [(if j.ring.isEmpty then 0#8 else 1#8) ||| (if j.ack.isSome then 2#8 else 0#8)]
    ++ f4 j.next ++ f4 (j.ack.getD 0) ++ f2 j.unacknowledged

end Sys2Proof.Machine
end

