-- ==== Sys2Proof/Machine/MeterUnit.lean ====
section
/-! DEFINITION. The Light Meter: the start of a reading, the pulse counter, and the computation of a completed reading
(spec/02 R26 to R37). -/

namespace Sys2Proof.Machine

/-- Milliseconds of a gate (spec/02 R28). -/
def Gate.ms : Gate → Nat
  | .ms250 => 250
  | .s1 => 1000
  | .s4 => 4000

/-- The exponent k of a gate (spec/02 R28). -/
def Gate.exponent : Gate → Int
  | .ms250 => -2
  | .s1 => 0
  | .s4 => 2

/-- The gate for the next reading, from the count and the gate used (spec/02 R28). -/
def nextGate (count : Nat) (used : Gate) : Gate :=
  if count < 1024 then
    match used with
    | .ms250 => .s1
    | .s1 => .s4
    | .s4 => .s4
  else if 262143 < count then
    match used with
    | .ms250 => .ms250
    | .s1 => .ms250
    | .s4 => .s1
  else used

/-- A reading starts: gate, settle time and edge fixed, period timer restarted, LSUPEN on. With a settle time of 0 the gate
opens at once (spec/02 R26, R36). -/
def Meter.start (m : Meter) (st : Settings) : Meter :=
  let opened := st.settle == 0
  { m with
    activity := if opened then .gating else .settling
    readingGate := m.gateSelection
    readingEdge := st.edge
    pulses := if opened then 0 else m.pulses
    settleTimer := if opened then none else some st.settle
    gateTimer := if opened then some m.gateSelection.ms else none
    periodTimer := some (secondsMs st.meterPeriod) }

/-- The meter is asked for a reading: it starts one from IDLE, and otherwise the reading in progress goes on (spec/02 R37). -/
def State.askReading (s : State) : State :=
  if s.meter.activity = .idle then { s with meter := s.meter.start s.settings } else s

/-- The settle time has elapsed: counter cleared, GATING (spec/02 R26). -/
def Meter.openGate (m : Meter) : Meter :=
  { m with activity := .gating, pulses := 0, settleTimer := none, gateTimer := some m.readingGate.ms }

/-- Bv of a completed reading (spec/02 R30 to R32). -/
def readingLevel (st : Settings) (count : Nat) (gate : Gate) : Int :=
  if count = 0 then st.darkFloor else (log64 count : Int) - 64 * gate.exponent + st.calibration

/-- The state of a completed reading (spec/02 R31 to R33). -/
def readingStateOf (st : Settings) (previousLevel : Option Int) (count : Nat) (bv : Int) : ReadingState :=
  if count = 0 then .dark
  else if Config.maxPulses ≤ count then .saturated
  else match previousLevel with
    | none => .unstable
    | some level => if (bv - level).natAbs ≤ st.hysteresis then .stable else .unstable

/-- The reading that completes now (spec/02 R34). -/
def State.completedReading (s : State) : Reading :=
  let bv := readingLevel s.settings s.meter.pulses s.meter.readingGate
  { state := readingStateOf s.settings s.meter.previousLevel s.meter.pulses bv
    bv := bv
    count := s.meter.pulses
    gate := s.meter.readingGate
    time := s.time.count }

/-- The meter after a completion: IDLE, the record replaced, the next gate chosen (spec/02 R26, R28, R33, R34). -/
def Meter.complete (m : Meter) (r : Reading) : Meter :=
  { m with
    activity := .idle
    settleTimer := none
    gateTimer := none
    latest := some r
    previousState := m.latest.map (·.state)
    previousLevel := some r.bv
    gateSelection := nextGate r.count r.gate }

end Sys2Proof.Machine
end

