-- ==== Sys2Proof/Machine/Ramp.lean ====
section
/-! DEFINITION. The Ramp Engine: the computation of a ticket in the stages of spec/03 section 3.2, the re-issue of a ticket
(R44), and the feedback of a delivered RESULT (R58 to R60). -/

namespace Sys2Proof.Machine

/-- The sum of the spans of SHUTTER segments (spec/01 R4). -/
def shutterTotal : List Segment → Nat
  | [] => 0
  | g :: rest => (if g.control = .shutter then g.span else 0) + shutterTotal rest

/-- The ladder total (spec/01 R4). -/
def ladderTotal : List Segment → Nat
  | [] => 0
  | g :: rest => g.span + ladderTotal rest

/-- Everything a ticket is computed from, apart from the applied need (spec/03 R43). -/
structure TicketInputs where
  ladder : List Segment
  base : Nat
  interval : Nat
  reserve : Nat
  gainControl : Bool
  apertureControl : Bool
  key : Nat
  compensation : Int
  correction : Int
  deadband : Nat
  smoothingWeight : Nat
  slewLimit : Nat
  /-- Bv of the latest reading; `none` while the reading is NONE. -/
  bv : Option Int
  /-- The applied need of a seeded record. -/
  need : Option Nat
  deriving DecidableEq, Repr

/-- cap_stops of a ticket (spec/03 R47). -/
def TicketInputs.capStops (x : TicketInputs) : Nat :=
  Machine.capStops x.base (shutterCap x.interval x.reserve x.base) (shutterTotal x.ladder)

/-- The effective spans in list order, with the shutter still allowed (spec/03 R48). -/
def effectiveSpans (gainControl apertureControl : Bool) : Nat → List Segment → List Segment
  | _, [] => []
  | left, g :: rest =>
    match g.control with
    | .shutter =>
      { g with span := min g.span left } :: effectiveSpans gainControl apertureControl (left - min g.span left) rest
    | .gain => { g with span := if gainControl then g.span else 0 } :: effectiveSpans gainControl apertureControl left rest
    | .aperture =>
      { g with span := if apertureControl then g.span else 0 } :: effectiveSpans gainControl apertureControl left rest

/-- The effective spans of a ticket (spec/03 R48). -/
def TicketInputs.spans (x : TicketInputs) : List Segment :=
  effectiveSpans x.gainControl x.apertureControl x.capStops x.ladder

/-- The reachable top: the sum of the effective spans (spec/03 R48). -/
def TicketInputs.top (x : TicketInputs) : Nat := ladderTotal x.spans

/-- The target need N for a reading of level `bv` (spec/03 R45). -/
def TicketInputs.targetNeed (x : TicketInputs) (bv : Int) : Int := x.key + x.compensation + x.correction - bv

/-- One step of the smoothing, from `prev` toward `nc` (spec/03 R52, items 1 to 5). -/
def smoothingStep (deadband weight slew : Nat) (prev nc : Int) : Int :=
  let d := nc - prev
  if d.natAbs ≤ deadband then 0
  else
    let step := sixteenths d weight
    let step := if step = 0 then (if 0 < d then 1 else -1) else step
    clampInt (-slew) slew step

/-- The clamped need Nc: N clamped to the top, or for a NONE reading the record's own need, or 0 to seed (spec/03 R49 to
R51). -/
def TicketInputs.clampedNeed (x : TicketInputs) : Int :=
  match x.bv with
  | some bv => clampInt 0 x.top (x.targetNeed bv)
  | none => x.need.getD 0

/-- The new applied need A (spec/03 R51, R52). -/
def TicketInputs.newNeed (x : TicketInputs) : Nat :=
  match x.need with
  | none => x.clampedNeed.toNat
  | some prev =>
    (clampInt 0 x.top (prev + smoothingStep x.deadband x.smoothingWeight x.slewLimit prev x.clampedNeed)).toNat

/-- Steps that the ladder walk puts on one control (spec/03 R53). -/
def walk (c : Control) : Nat → List Segment → Nat
  | _, [] => 0
  | left, g :: rest => (if g.control = c then min left g.span else 0) + walk c (left - min left g.span) rest

/-- The flags of a ticket (spec/03 R55). -/
def TicketInputs.flags (x : TicketInputs) : TicketFlags :=
  { seeded := x.need.isNone
    capped := decide (x.capStops < shutterTotal x.ladder)
    brightLimit := match x.bv with | some bv => decide (x.targetNeed bv < 0) | none => false
    darkLimit := match x.bv with | some bv => decide ((x.top : Int) < x.targetNeed bv) | none => false
    noMeter := x.bv.isNone }

/-- The figures of a computed ticket (spec/03 R53, R54). -/
structure TicketFigures where
  need : Nat
  exposure : Nat
  gain : Nat
  aperture : Nat
  flags : TicketFlags
  deriving DecidableEq, Repr

/-- The computation of a ticket, stages 3 to 8 (spec/03 section 3.2). -/
def TicketInputs.compute (x : TicketInputs) : TicketFigures :=
  { need := x.newNeed
    exposure := durationOf x.base (walk .shutter x.newNeed x.spans)
    gain := walk .gain x.newNeed x.spans
    aperture := walk .aperture x.newNeed x.spans
    flags := x.flags }

/-- A plan bank by its identity (spec/01 R1). -/
def Plan.bank (pl : Plan) : BankId → Bank
  | .a => pl.bankA
  | .b => pl.bankB

/-- The bank that is not `b`. -/
def BankId.other : BankId → BankId
  | .a => .b
  | .b => .a

/-- The active bank (spec/01 R1). -/
def Plan.activeBank (pl : Plan) : Bank := pl.bank pl.active

/-- The shadow bank (spec/01 R1). -/
def Plan.shadowBank (pl : Plan) : Bank := pl.bank pl.active.other

/-- The inputs of a head's ticket in a frame, each as it stands (spec/03 R43). -/
def State.ticketInputs (s : State) (f : Frame) (h : Head) : TicketInputs :=
  { ladder := s.plan.activeBank.ladder
    base := s.settings.shutterBase
    interval := f.interval
    reserve := (s.headSettings h).cycleReserve
    gainControl := (s.headSettings h).gainControl
    apertureControl := (s.headSettings h).apertureControl
    key := s.settings.key
    compensation := f.phase.compensation
    correction := (s.ramps.get h).correction
    deadband := f.phase.deadband
    smoothingWeight := f.phase.smoothingWeight
    slewLimit := f.phase.slewLimit
    bv := s.meter.latest.map (·.bv)
    need := (s.ramps.get h).need }

/-- The record after a computed ticket (spec/03 R56). -/
def RampRecord.ticketed (r : RampRecord) (sequence : Nat) (x : TicketFigures) : RampRecord :=
  { r with
    need := some x.need
    lastTicket := some ⟨sequence, x.exposure, x.gain, x.aperture, x.flags⟩ }

/-- No member of the frame has a computed ticket yet (spec/05 R85). -/
def Frame.noTicketYet (f : Frame) : Bool :=
  allHeads (fun h => match f.members.get h with
    | none => true
    | some m => m.ticket.isNone)

/-- The frame after a head's computed ticket: the entry's ticket part, and the meter field at the first ticket (spec/05 R85,
R87). -/
def Frame.ticketed (f : Frame) (h : Head) (x : TicketFigures) (mode : TriggerMode) (latest : Option Reading) : Frame :=
  { f with
    meter := if f.noTicketYet then latest.map (fun r => (r.bv, r.state)) else f.meter
    members := f.members.set h ((f.members.get h).map (fun m =>
      { m with ticket := some ⟨x.exposure, x.gain, x.aperture, x.need, mode, x.flags⟩ })) }

/-- A ticket is computed: the ramp record and the frame record take its figures together (spec/03 R43, R56). -/
def State.computeTicket (s : State) (f : Frame) (h : Head) : State :=
  let x := (s.ticketInputs f h).compute
  { s.modRamp h (fun r => r.ticketed f.sequence x) with
    frame := some (f.ticketed h x (s.headSettings h).triggerMode s.meter.latest) }

/-- The head's last ticket is of this frame, so it is re-issued and not computed (spec/03 R44). -/
def State.ticketStands (s : State) (f : Frame) (h : Head) : Bool :=
  match (s.ramps.get h).lastTicket with
  | none => false
  | some t => t.sequence == f.sequence

/-- A ticket is asked for: computed, or re-issued with no change (spec/03 R43, R44). -/
def State.askTicket (s : State) (f : Frame) (h : Head) : State :=
  if s.ticketStands f h then s else s.computeTicket f h

/-- The free applied need, in the range that spec/03 R54 gives (log entry 40). -/
def openNeed (h : Head) (sequence : Nat) : Nat := min (Config.unstatedNeed (headCode h) sequence) 1920

/-- The applied need that a ticket of the frame carries: the record's, or the entry's own when a RAMP_RESEED has made the
record's absent since the ticket (spec/03 R44; log entry 9). Where the entry holds no ticket either, as after a journal restart
that repeats the sequence of an old summary, the spec gives no value and the need is free (DESIGN CHOICE, log entry 40). -/
def State.ticketNeed (s : State) (f : Frame) (h : Head) : Nat :=
  match (s.ramps.get h).need with
  | some a => a
  | none =>
    match f.members.get h with
    | none => openNeed h f.sequence
    | some m => (m.ticket.map (·.need)).getD (openNeed h f.sequence)

/-- The ticket as the HELLO reply carries it, from the summary in the ramp record (spec/03 R54; spec/09 R165). -/
def State.ticketBytes (s : State) (f : Frame) (h : Head) : List Byte :=
  match (s.ramps.get h).lastTicket with
  | none => []
  | some t =>
    f4 f.sequence ++ f1 (headCode h) ++ fTime f.due ++ f4 t.exposure ++ f2 t.gain ++ f2 t.aperture
      ++ f2 (s.ticketNeed f h) ++ f2 f.phase.targetLevel ++ f1 (s.headSettings h).triggerMode.code
      ++ [ticketFlagsByte t.flags]

/-- The stored result level of a reported one (spec/03 R58). -/
def storedLevel (level : Nat) : Nat := min level 1023

/-- The correction after feedback (spec/03 R59). -/
def feedback (correction : Int) (limit target weight level : Nat) : Int :=
  clampInt (-limit) limit
    (correction + sixteenths ((log64 target : Int) - log64 (max (storedLevel level) 1)) weight)

/-- The record after a delivered RESULT (spec/03 R58 to R60). -/
def RampRecord.delivered (r : RampRecord) (limit : Nat) (ph : Phase) (level : Nat) : RampRecord :=
  { r with
    lastLevel := some (storedLevel level)
    correction :=
      if r.need.isSome ∧ ph.feedbackWeight ≠ 0 then
        feedback r.correction limit ph.targetLevel ph.feedbackWeight level
      else r.correction }

/-- An unseeded record with correction 0; the result level and the summary are kept (spec/03 R63). -/
def RampRecord.reseeded (r : RampRecord) : RampRecord := { r with need := none, correction := 0 }

end Sys2Proof.Machine
end

