-- ==== Sys2Proof/Machine/PlanControl.lean ====
section
/-! DEFINITION. The Plan Controller: phase entry, the successor and its start conditions, the swap, the count at a frame close
and the validation of a commit (spec/01). -/

namespace Sys2Proof.Machine

/-- The phase in force; a list without it (no reachable plan) reads as the default phase. -/
def Plan.activePhase (pl : Plan) : Phase := pl.activeBank.phases.getD pl.index defaultPhase

/-- The position of the successor (spec/01 R19). -/
def Plan.successorIndex (pl : Plan) : Nat :=
  if pl.index + 1 < pl.activeBank.phases.length then pl.index + 1 else 0

/-- The successor of the active phase (spec/01 R19). -/
def Plan.successor (pl : Plan) : Phase := pl.activeBank.phases.getD pl.successorIndex defaultPhase

/-- The plan state after the entry of a phase of the active bank (spec/01 R18). -/
def Plan.enter (pl : Plan) (i : Nat) : Plan :=
  { pl with
    index := i
    entry := (pl.entry + 1) % countModulus
    remaining := (pl.activeBank.phases.getD i defaultPhase).frameLimit
    confirm := 0 }

/-- A phase entry with its event; what the Scheduler does with it is the caller's (spec/01 R18). -/
def State.enterPhase (s : State) (i : Nat) : State :=
  ({ s with plan := s.plan.enter i } : State).raiseBoth .phaseChanged

/-- The two banks exchange roles and the entry phase is entered (spec/01 R16). -/
def State.swapBanks (s : State) (entry : Nat) : State :=
  (({ s with plan := { s.plan with active := s.plan.active.other, swapPending := none } } : State).enterPhase
    entry).raiseBoth .planSwapped

/-- The AT_TIME successor is met at this advance (spec/01 R19, R20). -/
def State.atTimeMet (s : State) : Bool :=
  decide (s.sched.run = .running) && s.time.valid && decide (startTime? s.plan.successor.start = some s.timeOfDay)

/-- An AFTER_LIMIT successor of an EXHAUSTED phase (spec/01 R23). -/
def State.afterLimitMet (s : State) : Bool :=
  s.exhausted && decide (s.plan.successor.start = .afterLimit)

/-- A reading counts STABLE toward a light-dependent start (spec/01 R21). -/
def countsStable (r : Reading) (previous : Option ReadingState) : Bool :=
  match r.state with
  | .stable => true
  | .unstable => false
  | .dark => previous == some .dark
  | .saturated => previous == some .saturated

/-- A reading satisfies the start condition of the successor; `none` where the start is not light-dependent (spec/01 R21). -/
def satisfiesStart (r : Reading) : Start → Option Bool
  | .onDarker threshold _ =>
    some (match r.state with
      | .stable | .unstable => decide (r.bv ≤ threshold)
      | .dark => true
      | .saturated => false)
  | .onBrighter threshold _ =>
    some (match r.state with
      | .stable | .unstable => decide (threshold ≤ r.bv)
      | .dark => false
      | .saturated => true)
  | .atTime _ | .afterLimit => none

/-- The confirm counter after a completed reading (spec/01 R21). -/
def confirmAfter (pl : Plan) (r : Reading) (previous : Option ReadingState) : Nat :=
  match satisfiesStart r pl.successor.start with
  | none => pl.confirm
  | some sat => if countsStable r previous then (if sat then pl.confirm + 1 else 0) else pl.confirm

/-- The confirm counter has reached the confirm count of a light-dependent successor (spec/01 R21). -/
def Plan.confirmed (pl : Plan) : Bool :=
  match confirm? pl.successor.start with
  | none => false
  | some c => decide (c ≤ pl.confirm)

/-- The plan controller takes a completed reading: the counter moves, and `true` says that the successor is met (spec/01
R19, R21; spec/02 R35). -/
def State.judgeLight (s : State) (r : Reading) (previous : Option ReadingState) : State × Bool :=
  if s.sched.run = .running then
    let t : State := { s with plan := { s.plan with confirm := confirmAfter s.plan r previous } }
    if (satisfiesStart r s.plan.successor.start).isSome && t.plan.confirmed then (t.enterPhase t.plan.successorIndex, true)
    else (t, false)
  else (s, false)

/-- The frame counts against the active phase (spec/01 R22). -/
def State.frameCounts (s : State) (f : Frame) : Bool :=
  (match s.plan.remaining with
    | none => false
    | some n => decide (0 < n))
  && (f.outcome == some .ok || f.outcome == some .partially) && !f.forced && decide (f.bank = s.plan.active)
  && decide (f.entry = s.plan.entry)

/-- The remaining-frame count after a close (spec/01 R22). -/
def State.countFrame (s : State) (f : Frame) : State :=
  if s.frameCounts f then { s with plan := { s.plan with remaining := s.plan.remaining.map (· - 1) } } else s

/-- The Plan Controller takes up a close: the count, then a pending swap or an AFTER_LIMIT entry (spec/01 R17, R22, R23). -/
def State.planClose (s : State) (f : Frame) : State :=
  let t := s.countFrame f
  match t.plan.swapPending with
  | some e => t.swapBanks e
  | none =>
    if s.frameCounts f && decide (t.sched.run = .running) && t.afterLimitMet then t.enterPhase t.plan.successorIndex
    else t

/-- Some AFTER_LIMIT phase has a cyclic predecessor with no frame limit (spec/01 R15, check 3); `prev` is the predecessor of
the first phase of the list. -/
def brokenChain : Phase → List Phase → Bool
  | _, [] => false
  | prev, ph :: rest => (decide (ph.start = .afterLimit) && prev.frameLimit.isNone) || brokenChain ph rest

/-- The validation of the shadow bank for a commit: the first check that fails (spec/01 R15). -/
def commitFault (b : Bank) (entry : Nat) : Option Reason :=
  if b.phases = [] then some .emptyPlan
  else if b.phases.length ≤ entry then some .badEntry
  else if brokenChain (b.phases.getLastD defaultPhase) b.phases then some .limitChain
  else if b.ladder = [] then some .emptyLadder
  else if b.ladder.all (fun g => decide (g.control ≠ .shutter)) then some .noShutter
  else if Config.maxShutterTotal < shutterTotal b.ladder then some .ladderShutter
  else if Config.maxLadderTotal < ladderTotal b.ladder then some .ladderTotal
  else none

/-- Replace the shadow bank. -/
def Plan.setShadow (pl : Plan) (b : Bank) : Plan :=
  match pl.active with
  | .a => { pl with bankB := b }
  | .b => { pl with bankA := b }

/-- The summary that every PLAN_READ reply carries, for the bank read (spec/01 R14). -/
def State.planSummary (s : State) (which : BankId) : List Byte :=
  f1 which.code ++ f1 (s.plan.bank which).phases.length ++ f1 (s.plan.bank which).ladder.length ++ f1 s.plan.active.code
    ++ f1 s.plan.index ++ f4 s.plan.entry ++ optNat 2 s.plan.remaining ++ fBool s.exhausted ++ f1 s.plan.confirm
    ++ optNat 1 s.plan.swapPending

end Sys2Proof.Machine
end

