-- ==== Sys2Proof/Machine/Schedule.lean ====
section
/-! DEFINITION. The Frame Scheduler's computations: the effective interval, the group, the due time with its skipped count
(spec/04 R76), the setting of the anchor, and the shift of every scheduled time (spec/04 R67, R71). -/

namespace Sys2Proof.Machine

/-- The stretch of a tier; no frame opens in HALT (spec/07 R134). -/
def Tier.stretch : Tier → Nat
  | .normal => 1
  | .economy => 2
  | .reserve => 8
  | .halt => 8

/-- I_eff: the phase interval times the stretch, and no more than 86,400 s (spec/04 R76, item 1). -/
def effectiveInterval (interval : Nat) (t : Tier) : Nat := min (interval * t.stretch) Config.maxInterval

/-- The head mask of a tier: every head, the reserve head mask, or none (spec/07 R134). -/
def Tier.allows (t : Tier) (mask : HeadSet) (h : Head) : Bool :=
  match t with
  | .normal => true
  | .economy => true
  | .reserve => mask.get h
  | .halt => false

/-- The group as it stands: the active phase's head set less the excluded heads, within the mask of the tier (spec/04 R76
item 2, R79). -/
def State.group (s : State) : HeadSet :=
  headSetOf (fun h => s.plan.activePhase.heads.get h && (s.heads.get h).exclusion.isNone
    && s.energy.effective.allows s.settings.reserveMask h)

/-- The empty group. -/
def emptyGroup (g : HeadSet) : Bool := !anyHead (fun h => g.get h)

/-- The largest lead among the heads of a group, 0 for the empty group (spec/04 R76, item 2). -/
def State.largestLead (s : State) (g : HeadSet) : Nat :=
  let lead := fun h => if g.get h then (s.headSettings h).lead else 0
  max (max (lead .h0) (lead .h1)) (max (lead .h2) (lead .h3))

/-- The first k of an anchor kind (spec/04 R76, item 3). -/
def AnchorKind.first : AnchorKind → Int
  | .frame => 1
  | .start => 0

/-- The k of the candidate that is taken: the first whose open time is at or after now, or the START anchor itself while it
is at or after now (spec/04 R76, items 3 and 4). -/
def takenIndex (a : Anchor) (interval lead : Nat) (now : Int) : Int :=
  if a.kind = .start ∧ now ≤ a.time then 0
  else max a.kind.first (ceilDiv (now + lead - a.time) interval)

/-- Candidates passed over before the k-th that add to the skipped count: those from the last due time on when the interval
is the one in force, and otherwise all (spec/04 R76, item 5). -/
def passedOver (a : Anchor) (k : Int) (interval inForce : Nat) (lastDue : Option Int) : Nat :=
  match lastDue with
  | none => (k - a.kind.first).toNat
  | some last =>
    if interval = inForce then (k - max a.kind.first (ceilDiv (last - a.time) interval)).toNat
    else (k - a.kind.first).toNat

/-- The due time and the open time become absent. -/
def Scheduler.noDue (c : Scheduler) : Scheduler := { c with due := none, openTime := none }

/-- The anchor is set: the last due time becomes absent (spec/04 R73). -/
def Scheduler.setAnchor (c : Scheduler) (time : Int) (kind : AnchorKind) : Scheduler :=
  { c with anchor := some ⟨time, kind⟩, lastDue := none }

/-- The pending skipped count rises, saturating at 65,535 (spec/04 R73). -/
def Scheduler.addSkipped (c : Scheduler) (n : Nat) : Scheduler :=
  { c with skipped := saturate Config.maxSkipped (c.skipped + n) }

/-- The scheduler with the due time that an anchor gives (spec/04 R76). -/
def Scheduler.dueFrom (c : Scheduler) (a : Anchor) (interval lead : Nat) (now : Int) : Scheduler :=
  let k := takenIndex a interval lead now
  let due := a.time + k * interval
  { c.addSkipped (passedOver a k interval c.interval c.lastDue) with
    due := some due, openTime := some (due - lead), interval := interval, lastDue := some due }

/-- Whether the run state, the phase condition or the tier leaves no due time (spec/04 R76). -/
def State.noSchedule (s : State) : Bool :=
  decide (s.sched.run = .held) || s.exhausted || decide (s.energy.effective = .halt)

/-- The computation of the due time (spec/04 R76). -/
def State.computeDue (s : State) : State :=
  if s.noSchedule then { s with sched := s.sched.noDue }
  else match s.sched.anchor with
    | none => { s with sched := s.sched.noDue }
    | some a =>
      { s with
        sched := s.sched.dueFrom a (effectiveInterval s.plan.activePhase.interval s.energy.effective)
          (s.largestLead s.group) s.now }

/-- The open time is present and has been reached (spec/04 R79). -/
def State.openReached (s : State) : Bool :=
  match s.sched.openTime with
  | none => false
  | some t => decide (t ≤ s.now)

/-- An open finds the group empty: the due time counts as skipped and becomes the anchor, and the due time is computed again
(spec/04 R80). -/
def State.emptyOpen (s : State) (due : Int) : State :=
  ({ s with sched := (s.sched.addSkipped 1).setAnchor due .frame } : State).computeDue

/-- The scheduler's times moved by a jump (spec/04 R67, R71). -/
def Scheduler.shift (c : Scheduler) (d : Int) : Scheduler :=
  { c with
    anchor := c.anchor.map (fun a => { a with time := a.time + d })
    due := c.due.map (· + d)
    openTime := c.openTime.map (· + d)
    lastDue := c.lastDue.map (· + d) }

/-- A member entry's wake time moved by a jump, unless it has been reached (spec/04 R67, R71; spec/05 R86, R87). -/
def Member.shift (d : Int) (m : Member) : Member := if m.reached then m else { m with wakeTime := m.wakeTime + d }

/-- The times of the frame in flight moved by a jump: D and the wake times not yet reached (spec/04 R67, R71). -/
def Frame.shift (d : Int) (f : Frame) : Frame :=
  { f with
    due := f.due + d
    members := ⟨f.members.h0.map (Member.shift d), f.members.h1.map (Member.shift d), f.members.h2.map (Member.shift d),
      f.members.h3.map (Member.shift d)⟩ }

/-- The schedule and the frame in flight move with the count (spec/04 R67, R71). -/
def State.shiftTimes (s : State) (d : Int) : State :=
  { s with sched := s.sched.shift d, frame := s.frame.map (Frame.shift d) }

/-- Due times missed during a stop, before the new anchor `until` (spec/04 R83). -/
def State.missedDueTimes (s : State) (untilTime : Int) : Nat :=
  match s.frame with
  | some f => (ceilDiv (untilTime - f.due) s.sched.interval - 1).toNat
  | none =>
    match s.sched.due with
    | some d => (ceilDiv (untilTime - d) s.sched.interval).toNat
    | none => 0

end Sys2Proof.Machine
end

