-- ==== Sys2Proof/Machine/FrameUnit.lean ====
section
/-! DEFINITION. The Frame Unit with the parts of the Head Sequencers that run inside its events: waking, firing, D reached,
abandonment and abort, the open (spec/05 R86), HALT entry (R92), the close handed to the four blocks in order (R98, R99),
and `finish`, which ends an event: what a tier change and a finished frame bring about. -/

namespace Sys2Proof.Machine

/-! ## Waking -/

/-- The CALL message (spec/06 R105; spec/09 R165). -/
def callMessage (h : Head) (f : Frame) : Message :=
  { body := 0xE0#8 :: 0x00#8 :: (f1 (headCode h) ++ f4 f.sequence ++ fTime f.due), effect := none }

/-- A head enters WAKING with its hello timer (spec/06 R104). -/
def State.enterWaking (s : State) (h : Head) : State :=
  s.modHead h (fun x => { x.enter .waking with hello := some (secondsMs (s.headSettings h).helloTimeout) })

/-- The wake of a member: from OFF with its rail, from STANDBY with a CALL (spec/06 R104). -/
def State.wake (s : State) (f : Frame) (h : Head) : State :=
  match (s.heads.get h).state with
  | .off => (s.railOn h).enterWaking h
  | .standby => (s.enqueue (headPort h) (callMessage h f)).enterWaking h
  | .waking => s
  | .ticketed => s
  | .armed => s
  | .exposing => s
  | .reporting => s
  | .closing => s

/-- A member's wake time is reached: it shifts no more, and the member is woken while its part is undecided (spec/05 R87;
spec/06 R104). -/
def State.wakeIfReached (h : Head) (s : State) : State :=
  match s.frame with
  | none => s
  | some f =>
    match f.members.get h with
    | none => s
    | some m =>
      if m.reached = false ∧ m.wakeTime ≤ s.now then
        (if m.outcome.isNone then s.wake f h else s).modMember h (fun x => { x with reached := true })
      else s

/-- Every wake time that has been reached is acted on (spec/06 R104). -/
def State.wakeReached (s : State) : State := forHeads State.wakeIfReached s

/-! ## Firing -/

/-- The exposure duration and the trigger mode that a member's entry gives its fire (spec/05 R87, R94). DESIGN CHOICE (log
entry 36): an entry with no ticket part, as after a re-issue of an old ticket of the same sequence past a journal restart,
gives neither, and both are free, the duration in the range of spec/05 R94. -/
def Member.firing (m : Member) (h : Head) (sequence : Nat) : Nat × TriggerMode :=
  match m.ticket with
  | some t => (t.exposure, t.mode)
  | none =>
    (clampNat 10 4194304000 (Config.unstatedExposure (headCode h) sequence),
     if Config.unstatedBulb (headCode h) sequence then .bulb else .timed)

/-- What a member of the frame in flight fires with. -/
def State.firing (s : State) (h : Head) : Option (Nat × TriggerMode) :=
  match s.frame with
  | none => none
  | some f => (f.members.get h).map (fun m => m.firing h f.sequence)

/-- A member fires: trigger asserted, bulb timer started, head EXPOSING; in TIMED mode the pulse runs for the pulse width as
it stands (spec/05 R93 to R95; spec/06 R112). -/
def State.fire (h : Head) (s : State) : State :=
  match s.firing h with
  | none => s
  | some x =>
    (s.modTrigger h (assertTrigger (s.headSettings h).polarity x.1
      (match x.2 with
        | .timed => some (s.headSettings h).pulseWidth
        | .bulb => none))).modHead h (fun y => y.enter .exposing)

/-- The head is a member and ARMED (spec/05 R89, the arm set). -/
def State.armedMember (s : State) (h : Head) : Bool := (s.member h).isSome && decide ((s.heads.get h).state = .armed)

/-- A member that is ARMED fires. -/
def State.fireIfArmed (h : Head) (s : State) : State := if s.armedMember h then s.fire h else s

/-- Every ARMED member fires (spec/05 R88, R89). -/
def State.fireArmed (s : State) : State := forHeads State.fireIfArmed s

/-- The arm set (spec/05 R89). -/
def State.armSet (s : State) : HeadSet := headSetOf (fun h => s.armedMember h)

/-- Every member is ARMED (spec/05 R89). -/
def State.armComplete (s : State) : Bool := allHeads (fun h => (s.member h).isNone || s.armedMember h)

/-- The sync state or stage of the frame in flight changes. -/
def State.setSync (s : State) (y : Sync) : State := s.modFrame (fun f => { f with sync := y })

/-- The fire instant of a LOCKED frame: all triggers together, arm timer stopped, FIRED (spec/05 R89). -/
def State.fireLocked (s : State) : State := { s.fireArmed.setSync .fired with armTimer := none }

/-! ## Abandonment and abort -/

/-- What an abandonment gives one member (spec/05 R90). -/
def State.abandonMember (h : Head) (s : State) : State :=
  if s.undecided h then
    match (s.heads.get h).state with
    | .waking | .ticketed => ((s.decideEntry h .noReady).countMiss h).modHead h HeadSeq.enterClosing
    | .armed => (s.decideEntry h .abandoned).modHead h HeadSeq.enterClosing
    | .off | .standby => s.decideEntry h .abandoned
    | .exposing | .reporting | .closing => s
  else s

/-- A LOCKED frame is abandoned (spec/05 R90). -/
def State.abandon (s : State) : State :=
  { (forHeads State.abandonMember s).setSync .abandoned with armTimer := none }

/-- What the loss of another member gives one member (spec/05 R91). -/
def State.abortMember (h : Head) (s : State) : State :=
  if s.undecided h then
    match (s.heads.get h).state with
    | .off | .standby => s.decideEntry h .aborted
    | .waking | .ticketed | .armed | .exposing | .reporting | .closing =>
      (s.decideEntry h .aborted).modHead h HeadSeq.enterClosing
  else s

/-- A LOCKED frame is aborted before F by the loss of a member (spec/05 R91). -/
def State.abortLocked (s : State) : State :=
  { (forHeads State.abortMember s).setSync .aborted with armTimer := none }

/-! ## D reached -/

/-- D is reached in WAITING (spec/05 R89, R90). -/
def State.reachLocked (s : State) (f : Frame) : State :=
  if s.armComplete then s.fireLocked
  else if 0 < f.phase.armWindow then
    { s.setSync .window with armTimer := some (secondsMs f.phase.armWindow) }
  else s.abandon

/-- The Frame Unit judges whether D is reached (spec/05 R88, R89). -/
def State.reachD (s : State) : State :=
  match s.frame with
  | none => s
  | some f =>
    if f.due ≤ s.now then
      match f.sync with
      | .beforeD => (s.setSync .afterD).fireArmed
      | .waiting => s.reachLocked f
      | .afterD | .window | .fired | .abandoned | .aborted => s
    else s

/-! ## The open -/

/-- A new member entry (spec/05 R86, items 2 and 5). -/
def newMember (due : Int) (lead : Nat) : Member :=
  { wakeTime := due - lead, reached := false, ticket := none, level := none, outcome := none }

/-- The sync state at the open (spec/05 R86, item 3). -/
def SyncMode.initial : SyncMode → Sync
  | .free => .beforeD
  | .locked => .waiting

/-- The member list of a group (spec/05 R86, item 2). -/
def State.membersOf (s : State) (due : Int) (g : HeadSet) : Four (Option Member) :=
  let entry := fun h => if g.get h then some (newMember due (s.headSettings h).lead) else none
  ⟨entry .h0, entry .h1, entry .h2, entry .h3⟩

/-- The record of a frame that opens now (spec/05 R85, R86; spec/01 R24). -/
def State.newFrame (s : State) (due : Int) (g : HeadSet) (forced : Bool) : Frame :=
  { sequence := s.journal.next, openTime := s.time.count, due := due, bank := s.plan.active, phaseIndex := s.plan.index,
    entry := s.plan.entry, phase := s.plan.activePhase, interval := s.sched.interval, forced := forced,
    skipped := s.sched.skipped, tierAtOpen := s.energy.effective, members := s.membersOf due g, meter := none,
    sync := s.plan.activePhase.sync.initial, outcome := none, haltAborted := false, resumedInFlight := false }

/-- The sequence is taken and the record made; the scheduler hands over its skipped count and holds no due time (spec/04
R79; spec/08 R143). -/
def State.createFrame (s : State) (due : Int) (g : HeadSet) (forced : Bool) : State :=
  let t : State := { s with journal := s.journal.restart }
  { t with
    frame := some (t.newFrame due g forced)
    journal := { t.journal with next := t.journal.next + 1 }
    sched := { t.sched.noDue with skipped := 0 } }

/-- A head in STANDBY that the group leaves out goes OFF within the open (spec/06 R117). -/
def State.dropStandby (g : HeadSet) (h : Head) (s : State) : State :=
  if (s.heads.get h).state = .standby ∧ g.get h = false then s.railOff h else s

/-- A frame opens (spec/05 R86): record, STANDBY heads left out, meter reading, wakes, D when it is already reached. -/
def State.openFrame (s : State) (due : Int) (g : HeadSet) (forced : Bool) : State :=
  (forHeads (State.dropStandby g) (s.createFrame due g forced)).askReading.wakeReached.reachD

/-- The scheduled open: the group as it stands, or the handling of an empty group (spec/04 R79, R80). -/
def State.openScheduled (s : State) (due : Int) : State :=
  if emptyGroup s.group then s.emptyOpen due else s.openFrame due s.group false

/-- A frame opens when its open time has been reached (spec/04 R79). -/
def State.tryOpen (s : State) : State :=
  if s.frame.isNone && s.openReached then
    match s.sched.due with
    | some due => s.openScheduled due
    | none => s
  else s

/-- The due time is computed and an open time already reached is taken at once; no effect while a frame is in flight
(spec/04 R76, R77, R79). -/
def State.reschedule (s : State) : State := if s.frame.isSome then s else s.computeDue.tryOpen

/-! ## HALT entry -/

/-- What HALT entry does to one head (spec/06 R119). -/
def State.haltHead (h : Head) (s : State) : State :=
  let t := s.decideEntry h .powerCut
  ((if (t.heads.get h).state = .closing then t.applyStorageMark h else t)).railOff h

/-- The frame in flight is aborted by HALT entry; an abandoned LOCKED frame stays abandoned (spec/05 R92). -/
def Frame.haltAbort (f : Frame) : Frame :=
  { f with
    haltAborted := true
    sync := match f.sync with
      | .waiting | .window | .fired | .aborted => .aborted
      | .abandoned => .abandoned
      | .beforeD => .beforeD
      | .afterD => .afterD }

/-- The effective tier enters HALT: due time dropped, every rail cut, the frame in flight aborted (spec/07 R135). -/
def State.haltEntry (s : State) : State :=
  let t := (forHeads State.haltHead { s with sched := s.sched.noDue }).modFrame Frame.haltAbort
  { t with armTimer := none }

/-! ## The close -/

/-- A member's part is decided and its head OFF or STANDBY (spec/05 R98). -/
def State.memberFinished (s : State) (h : Head) : Bool :=
  match s.member h with
  | none => true
  | some m =>
    m.outcome.isSome && (decide ((s.heads.get h).state = .off) || decide ((s.heads.get h).state = .standby))

/-- Every member is decided and OFF or STANDBY (spec/05 R98). -/
def State.frameFinished (s : State) : Bool := allHeads (fun h => s.memberFinished h)

/-- A member entry holds DONE. -/
def memberDone (m : Option Member) : Bool :=
  match m with
  | none => false
  | some x => x.outcome == some .done

/-- Some member's entry outcome is DONE. -/
def Frame.anyDone (f : Frame) : Bool := anyHead (fun h => memberDone (f.members.get h))

/-- Every member's entry outcome is DONE. -/
def Frame.allDone (f : Frame) : Bool := allHeads (fun h => (f.members.get h).isNone || memberDone (f.members.get h))

/-- The frame outcome at a close while the part runs: the first row of spec/05 R97 that applies. -/
def Frame.judgeOutcome (f : Frame) : FrameOutcome :=
  if f.sync = .abandoned then .abandonedSync
  else if f.haltAborted ∨ f.sync = .aborted then .aborted
  else if f.allDone then .ok
  else if f.anyDone then .partially
  else .failed

/-- A member that is still powered is accounted at the close, its marker staying RUNNING (spec/07 R129). -/
def State.accountMember (h : Head) (s : State) : State :=
  if (s.member h).isSome ∧ s.rail h then s.account h else s

/-- The effective tier has become HALT since it was `before` (spec/07 R135). -/
def State.followHalt (s : State) (before : Tier) : State :=
  if s.energy.effective = .halt ∧ before ≠ .halt then s.haltEntry else s

/-- The Energy Monitor takes up a close: members still powered, then a measurement (spec/05 R99, item 1). -/
def State.energyClose (s : State) : State := ((forHeads State.accountMember s).measure).followHalt s.energy.effective

/-- The Frame Scheduler's anchor after the close of a frame that was not forced, unless a SEQ_RESUME has set a START anchor
during the frame (spec/04 R78). -/
def Scheduler.afterFrame (c : Scheduler) (f : Frame) : Scheduler :=
  if f.forced || f.resumedInFlight then c else c.setAnchor f.due .frame

/-- The close up to the journal: Energy Monitor, Plan Controller, Frame Journal, and then no frame (spec/05 R98, R99). -/
def State.takeUpClose (s : State) (f : Frame) : State :=
  let t := (({ s with frame := some f, armTimer := none } : State).energyClose.planClose f).journalClose f
  { t with frame := none }

/-- The close of the frame in flight with its outcome set (spec/05 R98, R99; spec/04 R78). -/
def State.closeFrame (s : State) (f : Frame) : State :=
  let t := s.takeUpClose { f with outcome := some f.judgeOutcome }
  ({ t with sched := t.sched.afterFrame f } : State).reschedule

/-- The frame closes at the first event after which every member is decided and OFF or STANDBY (spec/05 R98). -/
def State.closeIfFinished (s : State) : State :=
  match s.frame with
  | none => s
  | some f => if s.frameFinished then s.closeFrame f else s

/-- What a change of the effective tier since `before` brings about: HALT entry, or the schedule computed anew while no frame
is in flight (spec/04 R77, R82; spec/07 R133, R137). -/
def State.followTier (s : State) (before : Tier) : State :=
  if s.energy.effective = before then s
  else if s.energy.effective = .halt then s.haltEntry
  else s.reschedule

/-- The end of an event that began with the effective tier `before`. -/
def State.finish (s : State) (before : Tier) : State := (s.followTier before).closeIfFinished

end Sys2Proof.Machine
end

