-- ==== Sys2Proof/Decode.lean ====
section
/-! DEFINITION. From the body of a checked message to the command it spells, and back: the request kinds with their codes,
groups and lengths (spec/09 R159), the field layouts (spec/09 R165, R166), and `decodeTableWord`. The rows of
spec/opcode_table.json give no bits, so no word spells a command by the table; commands reach the block as messages. -/

namespace Sys2Proof

/-- Who may send a kind (spec/09 R159). -/
inductive Group where
  /-- Taken from H0 to H3. -/
  | head
  /-- Taken from UL and SV. -/
  | station
  /-- Taken from all six ports. -/
  | anyPort
  deriving DecidableEq, Repr

/-- The code of a request kind (spec/09 R159). -/
def Kind.code : Kind → Byte
  | .hello => 0x10#8
  | .ready => 0x11#8
  | .result => 0x12#8
  | .statusRead => 0x20#8
  | .eventsRead => 0x21#8
  | .eventsEnable => 0x22#8
  | .portStatus => 0x23#8
  | .portReset => 0x24#8
  | .journalRead => 0x28#8
  | .journalAck => 0x29#8
  | .clockSet => 0x30#8
  | .clockRead => 0x31#8
  | .configWrite => 0x34#8
  | .configRead => 0x35#8
  | .planClear => 0x38#8
  | .phaseAppend => 0x39#8
  | .phaseReplace => 0x3A#8
  | .ladderPut => 0x3B#8
  | .commit => 0x3C#8
  | .planRead => 0x3D#8
  | .planCopy => 0x3E#8
  | .seqHold => 0x40#8
  | .seqResume => 0x41#8
  | .forceFrame => 0x42#8
  | .headReadmit => 0x43#8
  | .rampRead => 0x44#8
  | .rampReseed => 0x45#8
  | .bulletinWrite => 0x50#8
  | .bulletinRead => 0x51#8
  | .flagSet => 0x54#8
  | .flagClear => 0x55#8
  | .flagRead => 0x56#8

/-- The request LEN of a kind: its body bytes, KIND and TAG among them (spec/09 R159). -/
def Kind.requestLength : Kind → Nat
  | .ready => 6
  | .result => 11
  | .eventsEnable => 4
  | .portStatus => 3
  | .portReset => 3
  | .journalRead => 7
  | .journalAck => 6
  | .clockSet => 6
  | .configWrite => 8
  | .configRead => 4
  | .phaseAppend => 28
  | .phaseReplace => 29
  | .ladderPut => 27
  | .commit => 3
  | .planRead => 4
  | .headReadmit => 3
  | .rampRead => 3
  | .rampReseed => 3
  | .bulletinWrite => 5
  | .bulletinRead => 3
  | .flagSet => 3
  | .flagClear => 3
  | .hello | .statusRead | .eventsRead | .clockRead | .planClear | .planCopy | .seqHold | .seqResume | .forceFrame
  | .flagRead => 2

/-- The group of a kind (spec/09 R159). -/
def Kind.group : Kind → Group
  | .hello | .ready | .result => .head
  | .bulletinWrite | .bulletinRead | .flagSet | .flagClear | .flagRead => .anyPort
  | .statusRead | .eventsRead | .eventsEnable | .portStatus | .portReset | .journalRead | .journalAck | .clockSet
  | .clockRead | .configWrite | .configRead | .planClear | .phaseAppend | .phaseReplace | .ladderPut | .commit
  | .planRead | .planCopy | .seqHold | .seqResume | .forceFrame | .headReadmit | .rampRead | .rampReseed => .station

/-- Every request kind, in the order of spec/09 R159. -/
def allKinds : List Kind :=
  [.hello, .ready, .result, .statusRead, .eventsRead, .eventsEnable, .portStatus, .portReset, .journalRead, .journalAck,
   .clockSet, .clockRead, .configWrite, .configRead, .planClear, .phaseAppend, .phaseReplace, .ladderPut, .commit,
   .planRead, .planCopy, .seqHold, .seqResume, .forceFrame, .headReadmit, .rampRead, .rampReseed, .bulletinWrite,
   .bulletinRead, .flagSet, .flagClear, .flagRead]

/-- The request kind of a code; `none` for E0h, E1h, the reply kinds and every other code (spec/09 R159). -/
def kindOfCode (code : Byte) : Option Kind :=
  allKinds.find? (fun k => k.code == code)

/-- Two bytes of the line, least significant first (spec/00, Conventions). -/
def ofBytes2 (b0 b1 : Byte) : BitVec 16 := b1 ++ b0

/-- Four bytes of the line, least significant first. -/
def ofBytes4 (b0 b1 b2 b3 : Byte) : BitVec 32 := b3 ++ b2 ++ b1 ++ b0

/-- A two-byte field on the line, least significant byte first. -/
def toBytes2 (v : BitVec 16) : List Byte := [v.extractLsb' 0 8, v.extractLsb' 8 8]

/-- A four-byte field on the line, least significant byte first. -/
def toBytes4 (v : BitVec 32) : List Byte :=
  [v.extractLsb' 0 8, v.extractLsb' 8 8, v.extractLsb' 16 8, v.extractLsb' 24 8]

/-- The 26 bytes of a phase record (spec/09 R166). -/
def rawPhaseOfBytes : List Byte → Option RawPhase
  | [kind, pres, t0, t1, t2, t3, l0, l1, conf, i0, i1, i2, i3, f0, f1, heads, sync, arm, c0, c1, g0, g1, fw, slew, sw, db] =>
    some
      { startKind := kind, presence := pres, startTime := ofBytes4 t0 t1 t2 t3, threshold := ofBytes2 l0 l1, confirm := conf,
        interval := ofBytes4 i0 i1 i2 i3, frameLimit := ofBytes2 f0 f1, headSet := heads, syncMode := sync, armWindow := arm,
        compensation := ofBytes2 c0 c1, targetLevel := ofBytes2 g0 g1, feedbackWeight := fw, slewLimit := slew,
        smoothingWeight := sw, deadband := db }
  | _ => none

/-- The bytes of a phase record (spec/09 R166). -/
def bytesOfRawPhase (r : RawPhase) : List Byte :=
  [r.startKind, r.presence] ++ toBytes4 r.startTime ++ toBytes2 r.threshold ++ [r.confirm] ++ toBytes4 r.interval
    ++ toBytes2 r.frameLimit ++ [r.headSet, r.syncMode, r.armWindow] ++ toBytes2 r.compensation ++ toBytes2 r.targetLevel
    ++ [r.feedbackWeight, r.slewLimit, r.smoothingWeight, r.deadband]

/-- The slots of a ladder, three bytes each (spec/09 R166). -/
def rawSegmentsOfBytes : List Byte → Option (List RawSegment)
  | [] => some []
  | c :: s0 :: s1 :: rest =>
    match rawSegmentsOfBytes rest with
    | some slots => some ({ control := c, span := ofBytes2 s0 s1 } :: slots)
    | none => none
  | _ => none

/-- The bytes of the slots of a ladder (spec/09 R166). -/
def bytesOfRawSegments : List RawSegment → List Byte
  | [] => []
  | r :: rest => r.control :: (toBytes2 r.span ++ bytesOfRawSegments rest)

/-- The command that a request of a known kind spells: its fields in the order its chapter names them, single-byte
indices and selectors first (spec/09 R159). `none` where the bytes are not as many as the kind's. -/
def requestOfFields (k : Kind) (port : Port) (tag : Byte) (fields : List Byte) : Option Instr :=
  match k with
  | .hello => match fields with | [] => some (.hello port tag) | _ => none
  | .ready => match fields with | [a, b, c, d] => some (.ready port tag (ofBytes4 a b c d)) | _ => none
  | .result =>
    match fields with
    | [a, b, c, d, l0, l1, f0, f1, fl] => some (.result port tag (ofBytes4 a b c d) (ofBytes2 l0 l1) (ofBytes2 f0 f1) fl)
    | _ => none
  | .statusRead => match fields with | [] => some (.statusRead port tag) | _ => none
  | .eventsRead => match fields with | [] => some (.eventsRead port tag) | _ => none
  | .eventsEnable => match fields with | [a, b] => some (.eventsEnable port tag (ofBytes2 a b)) | _ => none
  | .portStatus => match fields with | [i] => some (.portStatus port tag i) | _ => none
  | .portReset => match fields with | [i] => some (.portReset port tag i) | _ => none
  | .journalRead =>
    match fields with
    | [a, b, c, d, n] => some (.journalRead port tag (ofBytes4 a b c d) n)
    | _ => none
  | .journalAck => match fields with | [a, b, c, d] => some (.journalAck port tag (ofBytes4 a b c d)) | _ => none
  | .clockSet => match fields with | [a, b, c, d] => some (.clockSet port tag (ofBytes4 a b c d)) | _ => none
  | .clockRead => match fields with | [] => some (.clockRead port tag) | _ => none
  | .configWrite =>
    match fields with
    | [it, ix, a, b, c, d] => some (.configWrite port tag it ix (ofBytes4 a b c d))
    | _ => none
  | .configRead => match fields with | [it, ix] => some (.configRead port tag it ix) | _ => none
  | .planClear => match fields with | [] => some (.planClear port tag) | _ => none
  | .phaseAppend =>
    match rawPhaseOfBytes fields with | some r => some (.phaseAppend port tag r) | none => none
  | .phaseReplace =>
    match fields with
    | i :: rest => match rawPhaseOfBytes rest with | some r => some (.phaseReplace port tag i r) | none => none
    | [] => none
  | .ladderPut =>
    match fields with
    | n :: rest =>
      if rest.length = 24 then
        match rawSegmentsOfBytes rest with | some slots => some (.ladderPut port tag n slots) | none => none
      else none
    | [] => none
  | .commit => match fields with | [i] => some (.commit port tag i) | _ => none
  | .planRead => match fields with | [b, i] => some (.planRead port tag b i) | _ => none
  | .planCopy => match fields with | [] => some (.planCopy port tag) | _ => none
  | .seqHold => match fields with | [] => some (.seqHold port tag) | _ => none
  | .seqResume => match fields with | [] => some (.seqResume port tag) | _ => none
  | .forceFrame => match fields with | [] => some (.forceFrame port tag) | _ => none
  | .headReadmit => match fields with | [i] => some (.headReadmit port tag i) | _ => none
  | .rampRead => match fields with | [i] => some (.rampRead port tag i) | _ => none
  | .rampReseed => match fields with | [i] => some (.rampReseed port tag i) | _ => none
  | .bulletinWrite => match fields with | [i, a, b] => some (.bulletinWrite port tag i (ofBytes2 a b)) | _ => none
  | .bulletinRead => match fields with | [w] => some (.bulletinRead port tag w) | _ => none
  | .flagSet => match fields with | [f] => some (.flagSet port tag f) | _ => none
  | .flagClear => match fields with | [f] => some (.flagClear port tag f) | _ => none
  | .flagRead => match fields with | [] => some (.flagRead port tag) | _ => none

/-- What a message whose sum is right spells on `port` (spec/09 R154, checks 2 and 4): a request, a request kind with a
LEN that is not its own (error LENGTH), or a kind that is not a request kind (command UNKNOWN_KIND). -/
def commandOfBody (port : Port) : List Byte → Instr
  | code :: tag :: fields =>
    match kindOfCode code with
    | some k =>
      match requestOfFields k port tag fields with
      | some i => i
      | none => .lengthError port
    | none => .unknownKind port tag code
  | _ => .lengthError port

/-- The body of the message that a request command stands for, KIND and TAG first; `none` for a command that is no
request (spec/09 R153, R159). -/
def bodyOfCommand : Instr → Option (List Byte)
  | .hello _ tag => some [Kind.hello.code, tag]
  | .ready _ tag sequence => some (Kind.ready.code :: tag :: toBytes4 sequence)
  | .result _ tag sequence level storageFree flags =>
    some (Kind.result.code :: tag :: (toBytes4 sequence ++ toBytes2 level ++ toBytes2 storageFree ++ [flags]))
  | .statusRead _ tag => some [Kind.statusRead.code, tag]
  | .eventsRead _ tag => some [Kind.eventsRead.code, tag]
  | .eventsEnable _ tag field => some (Kind.eventsEnable.code :: tag :: toBytes2 field)
  | .portStatus _ tag index => some [Kind.portStatus.code, tag, index]
  | .portReset _ tag index => some [Kind.portReset.code, tag, index]
  | .journalRead _ tag start count => some (Kind.journalRead.code :: tag :: (toBytes4 start ++ [count]))
  | .journalAck _ tag sequence => some (Kind.journalAck.code :: tag :: toBytes4 sequence)
  | .clockSet _ tag count => some (Kind.clockSet.code :: tag :: toBytes4 count)
  | .clockRead _ tag => some [Kind.clockRead.code, tag]
  | .configWrite _ tag item index value => some (Kind.configWrite.code :: tag :: item :: index :: toBytes4 value)
  | .configRead _ tag item index => some [Kind.configRead.code, tag, item, index]
  | .planClear _ tag => some [Kind.planClear.code, tag]
  | .phaseAppend _ tag phase => some (Kind.phaseAppend.code :: tag :: bytesOfRawPhase phase)
  | .phaseReplace _ tag index phase => some (Kind.phaseReplace.code :: tag :: index :: bytesOfRawPhase phase)
  | .ladderPut _ tag count slots => some (Kind.ladderPut.code :: tag :: count :: bytesOfRawSegments slots)
  | .commit _ tag entry => some [Kind.commit.code, tag, entry]
  | .planRead _ tag selector item => some [Kind.planRead.code, tag, selector, item]
  | .planCopy _ tag => some [Kind.planCopy.code, tag]
  | .seqHold _ tag => some [Kind.seqHold.code, tag]
  | .seqResume _ tag => some [Kind.seqResume.code, tag]
  | .forceFrame _ tag => some [Kind.forceFrame.code, tag]
  | .headReadmit _ tag index => some [Kind.headReadmit.code, tag, index]
  | .rampRead _ tag index => some [Kind.rampRead.code, tag, index]
  | .rampReseed _ tag index => some [Kind.rampReseed.code, tag, index]
  | .bulletinWrite _ tag index value => some (Kind.bulletinWrite.code :: tag :: index :: toBytes2 value)
  | .bulletinRead _ tag window => some [Kind.bulletinRead.code, tag, window]
  | .flagSet _ tag flag => some [Kind.flagSet.code, tag, flag]
  | .flagClear _ tag flag => some [Kind.flagClear.code, tag, flag]
  | .flagRead _ tag => some [Kind.flagRead.code, tag]
  | .unknownKind _ tag kind => some [kind, tag]
  | .checkError _ | .lengthError _ | .overrun _ | .framingError _ | .interByteTimerExpiry _ | .messageSent _ => none
  | .pulseEdge _ | .settleElapsed | .readingCompletion | .periodTimerExpiry | .secondsCountAdvance => none
  | .helloTimerExpiry _ | .readyTimerExpiry _ | .resultTimerExpiry _ | .graceTimerExpiry _ | .standbyTimerExpiry _ => none
  | .armTimerExpiry | .bulbTimerExpiry _ | .pulseWidthElapsed _ | .measurementTimerExpiry _ => none
  | .mainSupplyLoss | .nrstAssert | .coldStart _ | .warmStart _ | .characterReceived _ _ => none

/-- The port that the message of a request command (or of an UNKNOWN_KIND) completed on; `none` for every other command. -/
def requestPort : Instr → Option Port
  | .hello p _ | .ready p _ _ | .result p _ _ _ _ _ | .statusRead p _ | .eventsRead p _ | .eventsEnable p _ _ => some p
  | .portStatus p _ _ | .portReset p _ _ | .journalRead p _ _ _ | .journalAck p _ _ | .clockSet p _ _ | .clockRead p _ => some p
  | .configWrite p _ _ _ _ | .configRead p _ _ _ | .planClear p _ | .phaseAppend p _ _ | .phaseReplace p _ _ _ => some p
  | .ladderPut p _ _ _ | .commit p _ _ | .planRead p _ _ _ | .planCopy p _ | .seqHold p _ | .seqResume p _ => some p
  | .forceFrame p _ | .headReadmit p _ _ | .rampRead p _ _ | .rampReseed p _ _ | .bulletinWrite p _ _ _ => some p
  | .bulletinRead p _ _ | .flagSet p _ _ | .flagClear p _ _ | .flagRead p _ | .unknownKind p _ _ => some p
  | .checkError _ | .lengthError _ | .overrun _ | .framingError _ | .interByteTimerExpiry _ | .messageSent _ => none
  | .pulseEdge _ | .settleElapsed | .readingCompletion | .periodTimerExpiry | .secondsCountAdvance => none
  | .helloTimerExpiry _ | .readyTimerExpiry _ | .resultTimerExpiry _ | .graceTimerExpiry _ | .standbyTimerExpiry _ => none
  | .armTimerExpiry | .bulbTimerExpiry _ | .pulseWidthElapsed _ | .measurementTimerExpiry _ => none
  | .mainSupplyLoss | .nrstAssert | .coldStart _ | .warmStart _ | .characterReceived _ _ => none

/-- The sum that framing judges: LEN, the body and CHK, modulo 256 (spec/09 R153). -/
def frameSum (body : List Byte) (chk : Byte) : Byte :=
  body.foldl (fun a b => a + b) (BitVec.ofNat 8 body.length + chk)

/-- The check byte of a body (spec/09 R153). -/
def checkByte (body : List Byte) : Byte :=
  0#8 - frameSum body 0#8

/-- A message on the line: lead byte, LEN, body, CHK (spec/09 R153). -/
def frameOfBody (body : List Byte) : List Byte :=
  0xC5#8 :: BitVec.ofNat 8 body.length :: (body ++ [checkByte body])

/-- The command that a word spells by the bits of spec/opcode_table.json: none, because no row of the table gives bits. -/
def decodeTableWord (_nbits _w : Nat) : Option Instr := none

end Sys2Proof
end

