-- ==== Sys2Proof/Machine/Operands.lean ====
section
/-! DEFINITION. What the fields of a request mean: a phase record and a ladder as they are put, with their structural checks and
clamping (spec/01 R7, R8, R13), and the settings catalogue with its codes, ranges and defaults (spec/11 section 11.3). -/

namespace Sys2Proof.Machine

/-! ## Phase records and ladders -/

/-- A numeric field clamped to its range, and whether that changed it. -/
def fitNat (lo hi v : Nat) : Nat × Bool := (clampNat lo hi v, clampNat lo hi v != v)

/-- A signed field clamped to its range, and whether that changed it. -/
def fitInt (lo hi v : Int) : Int × Bool := (clampInt lo hi v, clampInt lo hi v != v)

/-- The start kind of a put record with the fields that are present for it, and whether one was clamped; `none` for an
unknown start kind code (spec/01 R3, R7). -/
def putStart (r : RawPhase) : Option (Start × Bool) :=
  let threshold := fitInt (-2176) 3454 r.threshold.toInt
  let confirm := fitNat 1 64 r.confirm.toNat
  if r.startKind = 0#8 then
    let time := fitNat 0 86399 r.startTime.toNat
    some (.atTime time.1, time.2)
  else if r.startKind = 1#8 then some (.onDarker threshold.1 confirm.1, threshold.2 || confirm.2)
  else if r.startKind = 2#8 then some (.onBrighter threshold.1 confirm.1, threshold.2 || confirm.2)
  else if r.startKind = 3#8 then some (.afterLimit, false)
  else none

/-- The frame limit of a put record: presence bit 0 decides whether it is there (spec/01 R7; spec/09 R166). -/
def putLimit (r : RawPhase) : Option Nat × Bool :=
  if r.presence.getLsbD 0 then
    let limit := fitNat 1 65535 r.frameLimit.toNat
    (some limit.1, limit.2)
  else (none, false)

/-- The arm window of a put record: not examined under FREE and stored as 0 (spec/01 R7). -/
def putArmWindow (r : RawPhase) : SyncMode → Nat × Bool
  | .free => (0, false)
  | .locked => fitNat 0 30 r.armWindow.toNat

/-- A put record that has passed the structural checks: stored values and whether one was clamped (spec/01 R7). -/
def storedPhase (r : RawPhase) (start : Start × Bool) (sync : SyncMode) : Phase × Bool :=
  let interval := fitNat 2 86400 r.interval.toNat
  let limit := putLimit r
  let arm := putArmWindow r sync
  let comp := fitInt (-640) 640 r.compensation.toInt
  let target := fitNat 32 992 r.targetLevel.toNat
  let weight := fitNat 0 16 r.feedbackWeight.toNat
  let slew := fitNat 1 192 r.slewLimit.toNat
  let smooth := fitNat 1 16 r.smoothingWeight.toNat
  let dead := fitNat 0 32 r.deadband.toNat
  ({ start := start.1, interval := interval.1, frameLimit := limit.1, heads := headSetOfByte r.headSet, sync := sync,
     armWindow := arm.1, compensation := comp.1, targetLevel := target.1, feedbackWeight := weight.1, slewLimit := slew.1,
     smoothingWeight := smooth.1, deadband := dead.1 },
   start.2 || interval.2 || limit.2 || arm.2 || comp.2 || target.2 || weight.2 || slew.2 || smooth.2 || dead.2)

/-- A phase record that is put: the first structural fault in the order of spec/01 R8, or the stored record and whether a
field was clamped. -/
def putPhase (r : RawPhase) : Reason ⊕ (Phase × Bool) :=
  match putStart r with
  | none => .inl .badStartKind
  | some start =>
    match syncModeOfByte r.syncMode with
    | none => .inl .badSyncMode
    | some sync =>
      if !anyHead (fun h => (headSetOfByte r.headSet).get h) then .inl .emptyHeads else .inr (storedPhase r start sync)

/-- The used slots of a put ladder as stored, and whether a span was clamped; `none` for an unknown control (spec/01 R13). -/
def putSlots : List RawSegment → Option (List Segment × Bool)
  | [] => some ([], false)
  | g :: rest =>
    match controlOfByte g.control with
    | none => none
    | some c =>
      match putSlots rest with
      | none => none
      | some (segments, clamped) =>
        some (⟨c, (fitNat 1 Config.maxLadderTotal g.span.toNat).1⟩ :: segments,
          (fitNat 1 Config.maxLadderTotal g.span.toNat).2 || clamped)

/-- A ladder that is put: the first structural fault in the order of spec/01 R8, or the stored ladder and whether a span was
clamped. -/
def putLadder (count : Nat) (slots : List RawSegment) : Reason ⊕ (List Segment × Bool) :=
  if count = 0 ∨ Config.ladderCapacity < count then .inl .badSegmentCount
  else match putSlots (slots.take count) with
    | none => .inl .badControl
    | some stored => .inr stored

/-! ## Settings -/

/-- A setting of the catalogue, with the head, station or port it belongs to (spec/11 section 11.3). -/
inductive Setting where
  | key | calibration | meterPeriod | hysteresis | darkFloor | settle | edge | shutterBase | correctionLimit
  | economyThreshold | reserveThreshold | haltThreshold | tierHysteresis | allowance | reserveMask | fillLevel
  | push (st : Station)
  | lineSpeed (p : Port)
  | errorThreshold (p : Port)
  | lead (h : Head)
  | helloTimeout (h : Head)
  | readyTimeout (h : Head)
  | resultTimeout (h : Head)
  | standbyThreshold (h : Head)
  | missLimit (h : Head)
  | cycleReserve (h : Head)
  | controls (h : Head)
  | current (h : Head)
  | triggerMode (h : Head)
  | pulseWidth (h : Head)
  | polarity (h : Head)
  deriving DecidableEq, Repr

/-- The global settings by item code (spec/11 section 11.3). -/
def globalSetting : Nat → Option Setting
  | 0x01 => some .key
  | 0x02 => some .calibration
  | 0x03 => some .meterPeriod
  | 0x04 => some .hysteresis
  | 0x05 => some .darkFloor
  | 0x06 => some .settle
  | 0x07 => some .edge
  | 0x08 => some .shutterBase
  | 0x09 => some .correctionLimit
  | 0x0A => some .economyThreshold
  | 0x0B => some .reserveThreshold
  | 0x0C => some .haltThreshold
  | 0x0D => some .tierHysteresis
  | 0x0E => some .allowance
  | 0x0F => some .reserveMask
  | 0x10 => some .fillLevel
  | _ => none

/-- The settings of a head by item code (spec/11 section 11.3). -/
def headSetting (h : Head) : Nat → Option Setting
  | 0x30 => some (.lead h)
  | 0x31 => some (.helloTimeout h)
  | 0x32 => some (.readyTimeout h)
  | 0x33 => some (.resultTimeout h)
  | 0x34 => some (.standbyThreshold h)
  | 0x35 => some (.missLimit h)
  | 0x36 => some (.cycleReserve h)
  | 0x37 => some (.controls h)
  | 0x38 => some (.current h)
  | 0x39 => some (.triggerMode h)
  | 0x3A => some (.pulseWidth h)
  | 0x3B => some (.polarity h)
  | _ => none

/-- The settings of a station or a port by item code (spec/11 section 11.3). -/
def portSetting (p : Port) : Nat → Option Setting
  | 0x18 => (portStation? p).map Setting.push
  | 0x20 => some (.lineSpeed p)
  | 0x21 => some (.errorThreshold p)
  | _ => none

/-- The setting that an item code and an index name; `none` for an item outside the catalogue and for an index outside the
item's range. The index of a global item is not examined (spec/11 R179, steps 1 and 2). -/
def settingOf (item index : Nat) : Option Setting :=
  match globalSetting item with
  | some g => some g
  | none =>
    match (headOfNat index).bind (fun h => headSetting h item) with
    | some x => some x
    | none => (portOfNat index).bind (fun p => portSetting p item)

/-- How a written value is checked (spec/11 section 11.3): a numeric range, signed or not, or the codes 0 to `top` with the
default that replaces any other value. -/
inductive ValueRule where
  | unsigned (lo hi : Nat)
  | signed (lo hi : Int)
  | coded (top default : Nat)
  deriving DecidableEq, Repr

/-- The ranges, codes and defaults of the catalogue (spec/11 section 11.3). -/
def Setting.rule : Setting → ValueRule
  | .key => .unsigned 0 4095
  | .calibration => .signed (-2048) 2047
  | .meterPeriod => .unsigned 10 3600
  | .hysteresis => .unsigned 0 255
  | .darkFloor => .signed (-2176) 3454
  | .settle => .unsigned 0 1000
  | .edge => .coded 1 0
  | .shutterBase => .unsigned 10 1000
  | .correctionLimit => .unsigned 0 384
  | .economyThreshold => .unsigned 0 16383
  | .reserveThreshold => .unsigned 0 16383
  | .haltThreshold => .unsigned 0 16383
  | .tierHysteresis => .unsigned 0 2000
  | .allowance => .unsigned 0 4294967295
  | .reserveMask => .coded 15 1
  | .fillLevel => .unsigned 1 256
  | .push _ => .coded 1 0
  | .lineSpeed _ => .coded 3 2
  | .errorThreshold _ => .unsigned 1 255
  | .lead _ => .unsigned 0 120
  | .helloTimeout _ => .unsigned 1 120
  | .readyTimeout _ => .unsigned 1 120
  | .resultTimeout _ => .unsigned 1 600
  | .standbyThreshold _ => .unsigned 0 3600
  | .missLimit _ => .unsigned 1 15
  | .cycleReserve _ => .unsigned 1 600
  | .controls _ => .coded 3 3
  | .current _ => .unsigned 1 5000
  | .triggerMode _ => .coded 1 0
  | .pulseWidth _ => .unsigned 1 1000
  | .polarity _ => .coded 1 0

/-- The value that a write stores, with its status (spec/11 R179, steps 3 to 5). -/
def ValueRule.settle (raw : BitVec 32) : ValueRule → Int × Status
  | .unsigned lo hi =>
    let v := fitNat lo hi raw.toNat
    (v.1, if v.2 then .clamped else .ok)
  | .signed lo hi =>
    let v := fitInt lo hi raw.toInt
    (v.1, if v.2 then .clamped else .ok)
  | .coded top default => if raw.toNat ≤ top then (raw.toNat, .ok) else (default, .defaulted)

def edgeOfCode (v : Nat) : Edge := if v = 1 then .falling else .rising
def pushOfCode (v : Nat) : PushMode := if v = 1 then .push else .flag
def modeOfCode (v : Nat) : TriggerMode := if v = 1 then .bulb else .timed
def polarityOfCode (v : Nat) : Polarity := if v = 1 then .activeLow else .activeHigh
def speedOfCode : Nat → LineSpeed
  | 0 => .b9600
  | 1 => .b19200
  | 3 => .b115200
  | _ => .b57600

/-- The code of a head's controls setting: bit 0 GAIN, bit 1 APERTURE (spec/11 section 11.3). -/
def controlsCode (x : HeadSettings) : Nat := x.gainControl.toNat + 2 * x.apertureControl.toNat

/-- The stored value of a setting, as a number or a code (spec/11 R180). -/
def Settings.value (x : Settings) : Setting → Int
  | .key => x.key
  | .calibration => x.calibration
  | .meterPeriod => x.meterPeriod
  | .hysteresis => x.hysteresis
  | .darkFloor => x.darkFloor
  | .settle => x.settle
  | .edge => edgeCode x.edge
  | .shutterBase => x.shutterBase
  | .correctionLimit => x.correctionLimit
  | .economyThreshold => x.economyThreshold
  | .reserveThreshold => x.reserveThreshold
  | .haltThreshold => x.haltThreshold
  | .tierHysteresis => x.tierHysteresis
  | .allowance => x.allowance
  | .reserveMask => (headSetByte x.reserveMask).toNat
  | .fillLevel => x.fillLevel
  | .push st => (x.push.get st).code
  | .lineSpeed p => (x.port.get p).lineSpeed.code
  | .errorThreshold p => (x.port.get p).errorThreshold
  | .lead h => (x.head.get h).lead
  | .helloTimeout h => (x.head.get h).helloTimeout
  | .readyTimeout h => (x.head.get h).readyTimeout
  | .resultTimeout h => (x.head.get h).resultTimeout
  | .standbyThreshold h => (x.head.get h).standbyThreshold
  | .missLimit h => (x.head.get h).missLimit
  | .cycleReserve h => (x.head.get h).cycleReserve
  | .controls h => controlsCode (x.head.get h)
  | .current h => (x.head.get h).current
  | .triggerMode h => (x.head.get h).triggerMode.code
  | .pulseWidth h => (x.head.get h).pulseWidth
  | .polarity h => (x.head.get h).polarity.code

/-- Change the settings of one head. -/
def Settings.modHead (x : Settings) (h : Head) (f : HeadSettings → HeadSettings) : Settings :=
  { x with head := x.head.set h (f (x.head.get h)) }

/-- Change the settings of one port. -/
def Settings.modPort (x : Settings) (p : Port) (f : PortSettings → PortSettings) : Settings :=
  { x with port := x.port.set p (f (x.port.get p)) }

/-- The settings with one stored anew; `v` is a value that `ValueRule.settle` gave (spec/11 R179). -/
def Settings.store (x : Settings) (v : Int) : Setting → Settings
  | .key => { x with key := v.toNat }
  | .calibration => { x with calibration := v }
  | .meterPeriod => { x with meterPeriod := v.toNat }
  | .hysteresis => { x with hysteresis := v.toNat }
  | .darkFloor => { x with darkFloor := v }
  | .settle => { x with settle := v.toNat }
  | .edge => { x with edge := edgeOfCode v.toNat }
  | .shutterBase => { x with shutterBase := v.toNat }
  | .correctionLimit => { x with correctionLimit := v.toNat }
  | .economyThreshold => { x with economyThreshold := v.toNat }
  | .reserveThreshold => { x with reserveThreshold := v.toNat }
  | .haltThreshold => { x with haltThreshold := v.toNat }
  | .tierHysteresis => { x with tierHysteresis := v.toNat }
  | .allowance => { x with allowance := v.toNat }
  | .reserveMask => { x with reserveMask := headSetOfByte (BitVec.ofInt 8 v) }
  | .fillLevel => { x with fillLevel := v.toNat }
  | .push st => { x with push := x.push.set st (pushOfCode v.toNat) }
  | .lineSpeed p => x.modPort p (fun y => { y with lineSpeed := speedOfCode v.toNat })
  | .errorThreshold p => x.modPort p (fun y => { y with errorThreshold := v.toNat })
  | .lead h => x.modHead h (fun y => { y with lead := v.toNat })
  | .helloTimeout h => x.modHead h (fun y => { y with helloTimeout := v.toNat })
  | .readyTimeout h => x.modHead h (fun y => { y with readyTimeout := v.toNat })
  | .resultTimeout h => x.modHead h (fun y => { y with resultTimeout := v.toNat })
  | .standbyThreshold h => x.modHead h (fun y => { y with standbyThreshold := v.toNat })
  | .missLimit h => x.modHead h (fun y => { y with missLimit := v.toNat })
  | .cycleReserve h => x.modHead h (fun y => { y with cycleReserve := v.toNat })
  | .controls h =>
    x.modHead h (fun y => { y with gainControl := v.toNat.testBit 0, apertureControl := v.toNat.testBit 1 })
  | .current h => x.modHead h (fun y => { y with current := v.toNat })
  | .triggerMode h => x.modHead h (fun y => { y with triggerMode := modeOfCode v.toNat })
  | .pulseWidth h => x.modHead h (fun y => { y with pulseWidth := v.toNat })
  | .polarity h => x.modHead h (fun y => { y with polarity := polarityOfCode v.toNat })

end Sys2Proof.Machine
end

