-- ==== Sys2Proof/Machine/Request.lean ====
section
/-! DEFINITION. What every request command shares: the port controller's checks at the completion of a message (spec/09 R154)
and the reply placed in the transmit queue (R158), together with the effects that wait for a reply to leave its queue (R157,
R162, R163). -/

namespace Sys2Proof.Machine

/-- The outcome of one command. -/
abbrev StepOutcome := Host.Outcome State Fault Refusal

/-- What a block decides for a request: the status, the bytes after it, and an effect that waits for the reply to leave its
queue (spec/09 R158). -/
structure Reply where
  status : Status
  fields : List Byte
  effect : Option Effect
  deriving DecidableEq, Repr

/-- A reply with fields and no waiting effect. -/
def reply (st : Status) (fields : List Byte) : Reply := { status := st, fields := fields, effect := none }

/-- A reply with no fields. -/
def bare (st : Status) : Reply := reply st []

/-- The reply INVALID: the reason byte, then the reply's own fields (spec/09 R158). -/
def invalid (r : Reason) (fields : List Byte) : Reply := reply .invalid (r.code :: fields)

/-- The reply as a message: request kind plus 80h, TAG, status, fields (spec/09 R158). -/
def replyMessage (k : Kind) (tag : Byte) (r : Reply) : Message :=
  { body := (k.code + 0x80#8) :: tag :: r.status.code :: r.fields, effect := r.effect }

/-- The reply to an unknown kind: FFh, TAG, UNKNOWN_KIND, the kind (spec/09 R158). -/
def unknownKindMessage (kind tag : Byte) : Message :=
  { body := [0xFF#8, tag, Status.unknownKind.code, kind], effect := none }

/-- Whether a port may send the kinds of a group (spec/09 R159). -/
def permitted : Group → Port → Bool
  | .head, p => (portHead? p).isSome
  | .station, p => (portStation? p).isSome
  | .anyPort, _ => true

/-- A request whose message has completed with a right sum and LEN (spec/09 R154, checks 3 to 6): OVERRUN when the queue has
no place for the reply, NOT_PERMITTED on a port that may not send the kind, and otherwise the block's own answer. While the
part is stopped nothing is taken (spec/11 R176). -/
def State.request (s : State) (k : Kind) (p : Port) (tag : Byte) (take : State → State × Reply) : State :=
  if s.runs then
    let t := s.rxToHunt p
    if t.hasPlace p then
      if permitted k.group p then (take t).1.enqueue p (replyMessage k tag (take t).2)
      else t.enqueue p (replyMessage k tag (bare .notPermitted))
    else t.countError p .overrun
  else s

/-- A command that is taken only while the part runs (spec/11 R176). -/
def State.whileRunning (s : State) (f : State → State) : State := if s.runs then f s else s

/-! ## Effects that wait for a reply -/

/-- The target port changes to a new line speed: HUNT, with no error counted; the speed already in use leaves the port
undisturbed (spec/09 R152). -/
def State.changeSpeed (s : State) (p : Port) (v : LineSpeed) : State :=
  if (s.ports.get p).speed = v then s else (s.rxToHunt p).modPort p (fun x => { x with speed := v })

/-- The effects waiting in a port's queue, oldest first (spec/09 R157). -/
def State.waitingEffects (s : State) (p : Port) : List Effect := (s.ports.get p).queue.filterMap (·.effect)

/-- A station PORT_RESET at a head whose part is undecided: RESET, rail off, and before F the LOCKED frame is aborted
(spec/05 R88, R91; spec/06 R118). -/
def State.loseMember (s : State) (h : Head) : State :=
  let t := (s.decideEntry h .reset).railOff h
  match t.frame with
  | none => t
  | some f =>
    match f.sync with
    | .waiting | .window => t.abortLocked
    | .beforeD | .afterD | .fired | .abandoned | .aborted => t

/-- A station PORT_RESET of a head port, at the Head Sequencer and the port together (spec/06 R118). DESIGN CHOICE (log entry 43):
a member that the arm window expiry has decided keeps that outcome, as R118 and spec/05 R87 have it, where the last words of
spec/05 R91 let the lost member take RESET. -/
def State.resetHeadPort (s : State) (h : Head) : State :=
  if s.undecided h then s.loseMember h
  else if s.rail h then
    (if (s.heads.get h).state = .closing then s.applyStorageMark h else s).railOff h
  else s.resetPort (headPort h)

/-- A station PORT_RESET takes effect at a port (spec/09 R163). -/
def State.takePortReset (s : State) (p : Port) : State :=
  match portHead? p with
  | some h => s.resetHeadPort h
  | none => s.resetPort p

/-- The waiting effects take place one after another; one that clears a queue lets the effects that waited there take place
too (spec/09 R157, R163). DESIGN CHOICE (log entry 38): the reset comes first, then the effects it has freed, oldest first.
Every effect waits in one of the 24 queue places, so 32 rounds are never used up. -/
def State.runEffects : Nat → List Effect → State → State
  | 0, _, s => s
  | _ + 1, [], s => s
  | n + 1, .lineSpeed p v :: rest, s => State.runEffects n rest (s.changeSpeed p v)
  | n + 1, .portReset p :: rest, s => State.runEffects n (rest ++ s.waitingEffects p) (s.takePortReset p)

/-- Rounds enough for every effect that can wait. -/
def effectRounds : Nat := 32

/-- A message has been sent: it leaves the queue, and its waiting effect takes place (spec/09 R157). -/
def State.messageSent (s : State) (p : Port) : State :=
  match (s.ports.get p).queue with
  | [] => s
  | m :: rest =>
    (State.runEffects effectRounds m.effect.toList (s.modPort p (fun x => { x with queue := rest }))).finish
      s.energy.effective

end Sys2Proof.Machine
end

