-- ==== Sys2Proof/Machine/MeterCommands.lean ====
section
/-! DEFINITION. The events of the Light Meter (spec/02) and the battery measurement timer (spec/07 R127). -/

namespace Sys2Proof.Machine

/-- An LPULSE edge of the kind that the reading was started with adds one while GATING, saturating (spec/02 R27). -/
def Meter.pulse (m : Meter) (e : Edge) : Meter :=
  if m.activity = .gating ∧ m.readingEdge = e then { m with pulses := saturate Config.maxPulses (m.pulses + 1) } else m

/-- PULSE_EDGE (spec/02 R27). -/
def execPulseEdge (e : Edge) (s : State) : StepOutcome :=
  .next (s.whileRunning (fun t => { t with meter := t.meter.pulse e }))

/-- SETTLE_ELAPSED (spec/02 R26). -/
def execSettleElapsed (s : State) : StepOutcome :=
  .next (s.whileRunning (fun t =>
    if t.meter.activity = .settling then { t with meter := t.meter.openGate } else t))

/-- A reading completes: record replaced, next gate chosen, and the Plan Controller judges its successor (spec/02 R26, R34,
R35; spec/01 R21); an entry lets the due time be computed anew (spec/04 R77). -/
def State.completeReading (s : State) : State :=
  let r := s.completedReading
  let previous := s.meter.latest.map (·.state)
  let t : State := { s with meter := s.meter.complete r }
  if (t.judgeLight r previous).2 then (t.judgeLight r previous).1.reschedule else (t.judgeLight r previous).1

/-- READING_COMPLETION (spec/02 R26). -/
def execReadingCompletion (s : State) : StepOutcome :=
  .next (s.whileRunning (fun t => if t.meter.activity = .gating then t.completeReading else t))

/-- The period timer expires: a reading starts from IDLE; otherwise the timer stays stopped until the next start (spec/02
R36). -/
def execPeriodTimerExpiry (s : State) : StepOutcome :=
  .next (s.whileRunning (fun t =>
    if t.meter.periodTimer.isSome then
      ({ t with meter := { t.meter with periodTimer := none } } : State).askReading
    else t))

/-- MEASUREMENT_TIMER_EXPIRY: the battery is measured and the timer starts again with 60 s (spec/07 R127). -/
def execMeasurementTimerExpiry (bsense : List Nat) (s : State) : StepOutcome :=
  .next (s.whileRunning (fun t =>
    if t.energy.measureTimer.isSome then
      (({ t with
          bsense := t.bsense.present bsense
          energy := { t.energy with measureTimer := some Config.measurementMs } } : State).measure).finish
        t.energy.effective
    else t))

end Sys2Proof.Machine
end

