-- ==== Sys2Proof/Machine/ClockCommands.lean ====
section
/-! DEFINITION. The Time Base: CLOCK_SET, CLOCK_READ, the advance of the seconds count with the blocks that act on it (spec/04
sections 4.1 and 4.2), and the passing of elapsed time on every timer (spec/04 R69). -/

namespace Sys2Proof.Machine

/-! ## CLOCK_SET and CLOCK_READ -/

/-- CLOCK_SET: the count takes the new value, the clock is VALID, the second restarts, and the schedule moves by the jump
(spec/04 R71). -/
def State.takeClockSet (s : State) (count : Nat) : State × Reply :=
  let t := s.shiftTimes ((count : Int) - s.time.count)
  (({ t with time := { count := count, valid := true, subSecond := 0, sinceSet := 0 } } : State).raiseBoth .clockSet,
   reply .ok (f4 s.time.count ++ fBool s.time.valid))

/-- CLOCK_SET (spec/04 R71). -/
def execClockSet (p : Port) (tag : Byte) (count : BitVec 32) (s : State) : StepOutcome :=
  .next (s.request .clockSet p tag (fun t => t.takeClockSet count.toNat))

/-- What CLOCK_READ carries: count, flag, time of day, whole seconds since the last set or start (spec/04 R72). -/
def State.clockBytes (s : State) : List Byte :=
  f4 s.time.count ++ fBool s.time.valid ++ f4 s.timeOfDay ++ f4 (s.time.sinceSet / 1000)

/-- CLOCK_READ (spec/04 R72). -/
def execClockRead (p : Port) (tag : Byte) (s : State) : StepOutcome :=
  .next (s.request .clockRead p tag (fun t => (t, reply .ok t.clockBytes)))

/-! ## Elapsed time -/

/-- A timer after `n` units; one that has reached 0 waits for its expiry to be taken. -/
def runTimer (n : Nat) (t : Option Nat) : Option Nat := t.map (· - n)

/-- The meter's timers (spec/02 R39). -/
def Meter.elapse (n : Nat) (m : Meter) : Meter :=
  { m with
    settleTimer := runTimer n m.settleTimer, gateTimer := runTimer n m.gateTimer, periodTimer := runTimer n m.periodTimer }

/-- The timers of a Head Sequencer (spec/06 R102). -/
def HeadSeq.elapse (n : Nat) (x : HeadSeq) : HeadSeq :=
  { x with
    hello := runTimer n x.hello, ready := runTimer n x.ready, result := runTimer n x.result, grace := runTimer n x.grace,
    standby := runTimer n x.standby }

/-- The two timers of a trigger; the bulb timer counts microseconds (spec/05 R94, R95). -/
def Trigger.elapse (n : Nat) (t : Trigger) : Trigger :=
  { t with bulb := runTimer (1000 * n) t.bulb, pulse := runTimer n t.pulse }

/-- The inter-byte timer of a port (spec/09 R153). -/
def PortState.elapse (n : Nat) (x : PortState) : PortState := { x with interByte := runTimer n x.interByte }

/-- An accumulator gains one a millisecond while it is RUNNING (spec/07 R129). -/
def OnTime.elapse (n : Nat) (o : OnTime) : OnTime :=
  if o.running then { o with ms := saturate Config.maxCharge (o.ms + n) } else o

/-- The same change of four like things. -/
def Four.map {α β : Type} (f : α → β) (v : Four α) : Four β := ⟨f v.h0, f v.h1, f v.h2, f v.h3⟩

/-- The same change of six like things. -/
def Six.map {α β : Type} (f : α → β) (v : Six α) : Six β := ⟨f v.h0, f v.h1, f v.h2, f v.h3, f v.ul, f v.sv⟩

/-- The battery measurement's timer and the accumulators (spec/07 R126). -/
def Energy.elapse (n : Nat) (e : Energy) : Energy :=
  { e with onTime := e.onTime.map (OnTime.elapse n), measureTimer := runTimer n e.measureTimer }

/-- `n` milliseconds pass on every elapsed-time timer while the part runs (spec/04 R69). -/
def State.elapse (s : State) (n : Nat) : State :=
  { s with
    time := { s.time with sinceSet := s.time.sinceSet + n }
    meter := s.meter.elapse n
    armTimer := runTimer n s.armTimer
    triggers := s.triggers.map (Trigger.elapse n)
    heads := s.heads.map (HeadSeq.elapse n)
    energy := s.energy.elapse n
    ports := s.ports.map (PortState.elapse n) }

/-! ## The advance of the seconds count -/

/-- The count after an advance (spec/04 R67). -/
def nextCount (count : Nat) : Nat := if count + 1 = countModulus then 0 else count + 1

/-- The count advances; at the wrap the scheduled times are reduced with it (spec/04 R67). -/
def State.advanceCount (s : State) : State :=
  let t := if s.time.count + 1 = countModulus then s.shiftTimes (-(countModulus : Int)) else s
  { t with time := { t.time with count := nextCount s.time.count, subSecond := 0 } }

/-- The advance that has just been taken is a day rollover (spec/04 R70). -/
def State.rolloverDue (s : State) : Bool := s.time.valid && decide (s.timeOfDay = 0)

/-- What a day rollover does to the retention domain: the spend becomes 0 and every head is readmitted (spec/06 R123; spec/07
R132). -/
def State.rollover (s : State) : State :=
  forHeads (fun h t => t.readmit h) { s with energy := { s.energy with spend := 0 } }

/-- A day rollover while the part runs: the budget floor and the tier are judged as well (spec/07 R132). DESIGN CHOICE (log
entry 41): every head is readmitted first, so that a due time computed for the new tier takes the readmitted heads into its
group; spec/04 R70 and spec/07 R132 do not order the two. -/
def State.runningRollover (s : State) : State := (s.rollover.judgeFloor.judgeTier).followTier s.energy.effective

/-- The Plan Controller judges an AT_TIME successor at the advance (spec/01 R20). -/
def State.judgeAtTime (s : State) : State :=
  if s.atTimeMet then (s.enterPhase s.plan.successorIndex).reschedule else s

/-- The blocks act on an advance in the order of spec/04 R67 (log entry 6): day rollover, AT_TIME successor, the open, D, the
wake times, and the close where one of these has finished the frame. -/
def State.actOnAdvance (s : State) : State :=
  (if s.rolloverDue then s.runningRollover else s).judgeAtTime.tryOpen.reachD.wakeReached.closeIfFinished

/-- The end of a second while the part runs. -/
def State.advanceRunning (s : State) : State := (s.elapse (1000 - s.time.subSecond)).advanceCount.actOnAdvance

/-- The end of a second while the part is stopped: the count and the day rollover alone (spec/11 R176). -/
def State.advanceStopped (s : State) : State :=
  let t := s.advanceCount
  if t.rolloverDue then t.rollover else t

/-- SECONDS_COUNT_ADVANCE (spec/04 R67). -/
def execSecondsCountAdvance (s : State) : StepOutcome :=
  .next (if s.runs then s.advanceRunning else s.advanceStopped)

end Sys2Proof.Machine
end

