-- ==== Sys2Proof/Machine/HeadCommands.lean ====
section
/-! DEFINITION. The three head kinds: HELLO (spec/06 R106, R107), READY (R109, R110) and RESULT (R113, R114). -/

namespace Sys2Proof.Machine

/-! ## HELLO -/

/-- The head enters TICKETED; under FREE its ready timer starts (spec/06 R106). -/
def State.enterTicketed (s : State) (f : Frame) (h : Head) : State :=
  s.modHead h (fun x =>
    { x.enter .ticketed with
      ready := match f.phase.sync with
        | .free => some (secondsMs (s.headSettings h).readyTimeout)
        | .locked => none })

/-- The reply to a HELLO that carries the ticket (spec/09 R165). -/
def State.ticketReply (s : State) (f : Frame) (h : Head) : Reply := reply .ok (s.ticketBytes f h)

/-- A HELLO of a member whose part is undecided (spec/06 R106, R107). -/
def State.takeMemberHello (s : State) (f : Frame) (h : Head) : State × Reply :=
  match (s.heads.get h).state with
  | .waking => let t := (s.askTicket f h).enterTicketed f h; (t, t.ticketReply f h)
  | .ticketed | .armed => let t := s.askTicket f h; (t, t.ticketReply f h)
  | .exposing | .reporting => (s, bare .notExpected)
  | .off | .standby => (s, bare .idle)
  | .closing => (s, bare .late)

/-- A HELLO as the Head Sequencer takes it (spec/06 R106, R107). DESIGN CHOICE (log entry 37): a HELLO taken after an expiry
whose rail off has closed the frame finds no frame in flight and is answered IDLE, where R108 names LATE. -/
def State.takeHello (s : State) (h : Head) : State × Reply :=
  match s.frame with
  | none => (s, bare .idle)
  | some f =>
    match f.members.get h with
    | none => (s, bare .idle)
    | some m => if m.outcome.isSome then (s, bare .late) else s.takeMemberHello f h

/-! ## READY -/

/-- A head in TICKETED becomes ARMED and the Frame Unit acts as the sync state requires (spec/06 R109; spec/05 R88, R89). -/
def State.arm (s : State) (f : Frame) (h : Head) : State :=
  let t := s.modHead h (fun x => x.enter .armed)
  match f.sync with
  | .afterD => t.fire h
  | .window => if t.armComplete then t.fireLocked else t
  | .beforeD | .waiting | .fired | .abandoned | .aborted => t

/-- The READY reply: head state after the event and fire marker (spec/06 R109). -/
def State.readyReply (s : State) (h : Head) : Reply :=
  reply .ok (f1 (s.heads.get h).state.code ++ fBool (decide ((s.heads.get h).state = .exposing)))

/-- A READY of a member whose part is undecided (spec/06 R109, R110). -/
def State.takeMemberReady (s : State) (f : Frame) (h : Head) (sequence : Nat) : State × Reply :=
  match (s.heads.get h).state with
  | .ticketed =>
    if sequence = f.sequence then let t := s.arm f h; (t, t.readyReply h) else (s, bare .notExpected)
  | .armed => if sequence = f.sequence then (s, s.readyReply h) else (s, bare .notExpected)
  | .off | .waking | .exposing | .reporting | .closing | .standby => (s, bare .notExpected)

/-- A READY as the Head Sequencer takes it (spec/06 R109, R110). DESIGN CHOICE (log entry 37): a READY taken after an expiry
whose rail off has closed the frame finds no frame in flight and is answered IDLE, where R111 names LATE. -/
def State.takeReady (s : State) (h : Head) (sequence : Nat) : State × Reply :=
  match s.frame with
  | none => (s, bare .idle)
  | some f =>
    match f.members.get h with
    | none => (s, bare .idle)
    | some m => if m.outcome.isSome then (s, bare .late) else s.takeMemberReady f h sequence

/-! ## RESULT -/

/-- The Frame Unit ends the exposure of a head in EXPOSING: bulb timer stopped and, in BULB mode, trigger released (spec/05
R95, R96; spec/06 R113, item 1). -/
def State.endExposure (s : State) (f : Frame) (m : Member) (h : Head) : State :=
  if (s.heads.get h).state = .exposing then
    match (m.firing h f.sequence).2 with
    | .bulb => (s.release h).stopBulb h
    | .timed => s.stopBulb h
  else s

/-- The Head Sequencer's own part of a delivered RESULT (spec/06 R113, items 4, 5 and 7). -/
def HeadSeq.takeResult (x : HeadSeq) (storageFree : Nat) (keepOff : Bool) : HeadSeq :=
  { x.enterClosing with
    miss := 0
    storageMark := x.storageMark || decide (storageFree = 0)
    keepOff := x.keepOff || keepOff }

/-- A RESULT that is delivered (spec/06 R113). -/
def State.deliverResult (s : State) (f : Frame) (m : Member) (h : Head) (level storageFree : Nat) (keepOff : Bool) : State :=
  ((((s.endExposure f m h).modRamp h (fun r => r.delivered s.settings.correctionLimit f.phase level)).modMember h
    (fun x => { x with level := some (storedLevel level) })).decideEntry h .done).modHead h
    (fun x => x.takeResult storageFree keepOff)

/-- The reply OK with the outcome DONE (spec/09 R165). -/
def doneReply : Reply := reply .ok [outcomeByte (some .done)]

/-- A RESULT as the Head Sequencer takes it (spec/06 R113, R114). -/
def State.takeResult (s : State) (h : Head) (sequence level storageFree : Nat) (keepOff : Bool) : State × Reply :=
  match s.frame with
  | none => (s, bare .late)
  | some f =>
    match f.members.get h with
    | none => (s, bare .late)
    | some m =>
      if m.outcome.isSome then
        (s, if m.outcome = some .done ∧ sequence = f.sequence then doneReply else bare .late)
      else
        match (s.heads.get h).state with
        | .exposing | .reporting =>
          if sequence = f.sequence then (s.deliverResult f m h level storageFree keepOff, doneReply)
          else (s, bare .notExpected)
        | .off | .waking | .ticketed | .armed | .closing | .standby => (s, bare .notExpected)

/-! ## The commands -/

/-- A request of a head port, handed to its Head Sequencer. -/
def headTake (p : Port) (take : Head → State → State × Reply) (s : State) : State × Reply :=
  match portHead? p with
  | some h => take h s
  | none => (s, bare .notPermitted)

/-- HELLO (spec/06 R106). -/
def execHello (p : Port) (tag : Byte) (s : State) : StepOutcome :=
  .next (s.request .hello p tag (headTake p (fun h t => t.takeHello h)))

/-- READY (spec/06 R109). -/
def execReady (p : Port) (tag : Byte) (sequence : BitVec 32) (s : State) : StepOutcome :=
  .next (s.request .ready p tag (headTake p (fun h t => t.takeReady h sequence.toNat)))

/-- RESULT; bit 0 of the flags byte is KEEP_OFF (spec/06 R113). -/
def execResult (p : Port) (tag : Byte) (sequence : BitVec 32) (level storageFree : BitVec 16) (flags : Byte) (s : State) :
    StepOutcome :=
  .next (s.request .result p tag
    (headTake p (fun h t => t.takeResult h sequence.toNat level.toNat storageFree.toNat (flags.getLsbD 0))))

end Sys2Proof.Machine
end

