-- ==== Sys2Proof/Machine/JournalCommands.lean ====
section
/-! DEFINITION. JOURNAL_READ and JOURNAL_ACK (spec/08 section 8.5). -/

namespace Sys2Proof.Machine

/-- Up to `count` records from a sequence on, in ascending order (spec/08 R148). -/
def Journal.recordsFrom (j : Journal) (start count : Nat) : List JournalRecord :=
  (j.ring.filter (fun r => decide (start ≤ r.sequence))).take count

/-- The journal's answer to a read: status and records. A starting sequence below the oldest gives GAP and the records from
the oldest on (spec/08 R148). -/
def Journal.read (j : Journal) (start count : Nat) : Status × List JournalRecord :=
  if count = 0 ∨ 2 < count then (.badIndex, [])
  else
    match j.oldest with
    | none => (.ok, [])
    | some o => (if start < o then .gap else .ok, j.recordsFrom start count)

/-- Records one after another (spec/09 R167). -/
def recordListBytes : List JournalRecord → List Byte
  | [] => []
  | r :: rest => recordBytes r ++ recordListBytes rest

/-- The reply to JOURNAL_READ (spec/08 R148; spec/09 R167). -/
def State.takeJournalRead (s : State) (start count : Nat) : State × Reply :=
  let answer := s.journal.read start count
  (s, reply answer.1 (s.journal.summary ++ f1 answer.2.length ++ recordListBytes answer.2))

/-- JOURNAL_READ (spec/08 R148). -/
def execJournalRead (p : Port) (tag : Byte) (start : BitVec 32) (count : Byte) (s : State) : StepOutcome :=
  .next (s.request .journalRead p tag (fun t => t.takeJournalRead start.toNat count.toNat))

/-- A sequence lies at or below the acknowledged mark. -/
def atOrBelowMark (ack : Option Nat) (sequence : Nat) : Bool := !aboveMark ack sequence

/-- The mark and the status after an acknowledgement (spec/08 R149). -/
def Journal.acknowledge (j : Journal) (sequence : Nat) : Option Nat × Status :=
  match j.newest with
  | none => (j.ack, .clamped)
  | some n =>
    if n < sequence then (some n, .clamped)
    else if atOrBelowMark j.ack sequence then (j.ack, .ok)
    else (some sequence, .ok)

/-- JOURNAL_ACK: the mark moves, the fill marker is judged, and the reply carries the summary after both (spec/08 R149). -/
def State.takeJournalAck (s : State) (sequence : Nat) : State × Reply :=
  let answer := s.journal.acknowledge sequence
  let t := ({ s with journal := { s.journal with ack := answer.1 } } : State).judgeFill
  (t, reply answer.2 t.journal.summary)

/-- JOURNAL_ACK (spec/08 R149). -/
def execJournalAck (p : Port) (tag : Byte) (sequence : BitVec 32) (s : State) : StepOutcome :=
  .next (s.request .journalAck p tag (fun t => t.takeJournalAck sequence.toNat))

end Sys2Proof.Machine
end

