-- ==== Sys2Proof/Machine/PlanCommands.lean ====
section
/-! DEFINITION. The plan requests (spec/01 sections 1.2 and 1.3): the edits of the shadow bank and COMMIT, which only the holder
of F0 may send and no pending swap may stand against, and PLAN_READ. -/

namespace Sys2Proof.Machine

/-- The checks of spec/01 R6 before an edit: F0 held by the requester, no swap pending. `fields` is what a refusal carries. -/
def State.planEdit (s : State) (p : Port) (fields : List Byte) (edit : State → State × Reply) : State × Reply :=
  if s.flags.i0 ≠ some p then (s, reply .notHolder fields)
  else if s.plan.swapPending.isSome then (s, reply .busy fields)
  else edit s

/-- The shadow bank takes new contents. -/
def State.setShadow (s : State) (b : Bank) : State := { s with plan := s.plan.setShadow b }

/-- The shadow phase count as a reply carries it. -/
def State.shadowCount (s : State) : List Byte := f1 s.plan.shadowBank.phases.length

/-- CLAMPED when a field was clamped, OK otherwise (spec/01 R7). -/
def putStatus (clamped : Bool) : Status := if clamped then .clamped else .ok

/-- PLAN_CLEAR (spec/01 R9). -/
def State.takePlanClear (s : State) : State × Reply := (s.setShadow ⟨[], []⟩, bare .ok)

/-- PLAN_COPY (spec/01 R10). -/
def State.takePlanCopy (s : State) : State × Reply := (s.setShadow s.plan.activeBank, bare .ok)

/-- PHASE_APPEND (spec/01 R11): FULL before the record's own checks; a refusal carries the unchanged count. -/
def State.takePhaseAppend (s : State) (r : RawPhase) : State × Reply :=
  if Config.phaseCapacity ≤ s.plan.shadowBank.phases.length then (s, reply .full s.shadowCount)
  else match putPhase r with
    | .inl reason => (s, invalid reason s.shadowCount)
    | .inr stored =>
      let t := s.setShadow { s.plan.shadowBank with phases := s.plan.shadowBank.phases ++ [stored.1] }
      (t, reply (putStatus stored.2) t.shadowCount)

/-- PHASE_REPLACE (spec/01 R12). -/
def State.takePhaseReplace (s : State) (index : Nat) (r : RawPhase) : State × Reply :=
  if s.plan.shadowBank.phases.length ≤ index then (s, bare .badIndex)
  else match putPhase r with
    | .inl reason => (s, invalid reason [])
    | .inr stored =>
      let t := s.setShadow { s.plan.shadowBank with phases := s.plan.shadowBank.phases.set index stored.1 }
      (t, reply (putStatus stored.2) t.shadowCount)

/-- LADDER_PUT (spec/01 R13). -/
def State.takeLadderPut (s : State) (count : Nat) (slots : List RawSegment) : State × Reply :=
  match putLadder count slots with
  | .inl reason => (s, invalid reason [])
  | .inr stored =>
    (s.setShadow { s.plan.shadowBank with ladder := stored.1 }, bare (putStatus stored.2))

/-- COMMIT (spec/01 R15 to R17): validated, then made at once, or pending while a frame is in flight. The reply carries the
bank that becomes active and the deferred marker. -/
def State.takeCommit (s : State) (entry : Nat) : State × Reply :=
  match commitFault s.plan.shadowBank entry with
  | some reason => (s, invalid reason [])
  | none =>
    if s.frame.isSome then
      ({ s with plan := { s.plan with swapPending := some entry } }, reply .ok (f1 s.plan.active.other.code ++ f1 1))
    else ((s.swapBanks entry).reschedule, reply .ok (f1 s.plan.active.other.code ++ f1 0))

/-- The bank that a selector names: ACTIVE 00h, SHADOW 01h (spec/01 R14). -/
def Plan.selected (pl : Plan) (selector : Nat) : Option BankId :=
  match selector with
  | 0 => some pl.active
  | 1 => some pl.active.other
  | _ => none

/-- The item of a bank that PLAN_READ names: a phase by index, or FFh for the ladder (spec/01 R14). -/
def Bank.itemBytes (b : Bank) (item : Nat) : Option (List Byte) :=
  if item = 255 then some (ladderBytes b.ladder)
  else if item < Config.phaseCapacity then (b.phases[item]?).map phaseBytes
  else none

/-- PLAN_READ (spec/01 R14). -/
def State.takePlanRead (s : State) (selector item : Nat) : State × Reply :=
  match s.plan.selected selector with
  | none => (s, reply .badIndex (s.planSummary s.plan.active))
  | some which =>
    match (s.plan.bank which).itemBytes item with
    | none => (s, reply .badIndex (s.planSummary which))
    | some bytes => (s, reply .ok (s.planSummary which ++ bytes))

/-! ## The commands -/

/-- PLAN_CLEAR (spec/01 R9). -/
def execPlanClear (p : Port) (tag : Byte) (s : State) : StepOutcome :=
  .next (s.request .planClear p tag (fun t => t.planEdit p [] (fun u => u.takePlanClear)))

/-- PHASE_APPEND (spec/01 R11). -/
def execPhaseAppend (p : Port) (tag : Byte) (r : RawPhase) (s : State) : StepOutcome :=
  .next (s.request .phaseAppend p tag (fun t => t.planEdit p t.shadowCount (fun u => u.takePhaseAppend r)))

/-- PHASE_REPLACE (spec/01 R12). -/
def execPhaseReplace (p : Port) (tag : Byte) (index : Byte) (r : RawPhase) (s : State) : StepOutcome :=
  .next (s.request .phaseReplace p tag (fun t => t.planEdit p [] (fun u => u.takePhaseReplace index.toNat r)))

/-- LADDER_PUT (spec/01 R13). -/
def execLadderPut (p : Port) (tag : Byte) (count : Byte) (slots : List RawSegment) (s : State) : StepOutcome :=
  .next (s.request .ladderPut p tag (fun t => t.planEdit p [] (fun u => u.takeLadderPut count.toNat slots)))

/-- COMMIT (spec/01 R15). -/
def execCommit (p : Port) (tag : Byte) (entry : Byte) (s : State) : StepOutcome :=
  .next (s.request .commit p tag (fun t => t.planEdit p [] (fun u => u.takeCommit entry.toNat)))

/-- PLAN_READ (spec/01 R14). -/
def execPlanRead (p : Port) (tag : Byte) (selector item : Byte) (s : State) : StepOutcome :=
  .next (s.request .planRead p tag (fun t => t.takePlanRead selector.toNat item.toNat))

/-- PLAN_COPY (spec/01 R10). -/
def execPlanCopy (p : Port) (tag : Byte) (s : State) : StepOutcome :=
  .next (s.request .planCopy p tag (fun t => t.planEdit p [] (fun u => u.takePlanCopy)))

end Sys2Proof.Machine
end

