-- ==== Sys2Proof/Machine/PortCommands.lean ====
section
/-! DEFINITION. The ports' own commands: STATUS_READ, the station events, PORT_STATUS and PORT_RESET (spec/09 sections 9.2 to
9.7), and the events of a port's line: its receive errors and the sending of a message. -/

namespace Sys2Proof.Machine

/-- A request of a station port, handed to its station. -/
def stationTake (p : Port) (take : Station → State → State × Reply) (s : State) : State × Reply :=
  match portStation? p with
  | some st => take st s
  | none => (s, bare .notPermitted)

/-! ## STATUS_READ (spec/09 R164) -/

/-- Item 1: seconds count, clock-valid flag, time of day. -/
def State.statusTime (s : State) : List Byte := f4 s.time.count ++ fBool s.time.valid ++ f4 s.timeOfDay

/-- Item 2: the Frame Scheduler (spec/04 R73). -/
def State.statusSched (s : State) : List Byte :=
  f1 s.sched.run.code ++ optField 4 (s.sched.anchor.map (·.time)) ++ optNat 1 (s.sched.anchor.map (·.kind.code))
    ++ optField 4 s.sched.due ++ optField 4 s.sched.openTime ++ f4 s.sched.interval ++ f2 s.sched.skipped
    ++ f1 s.noDueReason.code

/-- Item 3: the Plan Controller (spec/01 R2). -/
def State.statusPlan (s : State) : List Byte :=
  f1 s.plan.active.code ++ f1 s.plan.index ++ f4 s.plan.entry ++ optNat 2 s.plan.remaining ++ fBool s.exhausted
    ++ f1 s.plan.confirm ++ optNat 1 s.plan.swapPending

/-- Item 4: the Light Meter (spec/02 R34). -/
def State.statusMeter (s : State) : List Byte :=
  f1 s.meter.activity.code ++ f1 s.meter.gateSelection.code ++ f1 (readingStateCode (s.meter.latest.map (·.state)))
    ++ optField 2 (s.meter.latest.map (·.bv)) ++ optNat 4 (s.meter.latest.map (·.count))
    ++ optNat 1 (s.meter.latest.map (·.gate.code)) ++ optNat 4 (s.meter.latest.map (·.time))
    ++ f1 (readingStateCode s.meter.previousState)

/-- Whether a head is a member, and its entry outcome. -/
def statusMember (m : Option Member) : List Byte := fBool m.isSome ++ [outcomeByte (m.bind (·.outcome))]

/-- The arm set as sent: that of a LOCKED frame, empty for a FREE one (spec/05 R89; log entry 22). -/
def State.statusArmSet (s : State) (f : Frame) : Byte :=
  match f.phase.sync with
  | .free => 0#8
  | .locked => headSetByte s.armSet

/-- Item 5: the frame in flight, or 21 bytes of 0 (spec/05 R84). -/
def State.statusFrame (s : State) : List Byte :=
  match s.frame with
  | none => zeroBytes 21
  | some f =>
    f1 1 ++ f4 f.sequence ++ fTime f.due ++ fBool f.forced ++ f1 f.phase.sync.code ++ f1 f.sync.code ++ [s.statusArmSet f]
      ++ statusMember f.members.h0 ++ statusMember f.members.h1 ++ statusMember f.members.h2 ++ statusMember f.members.h3

/-- Item 6, one head (spec/06 R102). -/
def State.statusHead (s : State) (h : Head) : List Byte :=
  f1 (s.heads.get h).state.code ++ fBool (s.rail h) ++ f1 (s.heads.get h).miss ++ fBool (s.heads.get h).exclusion.isSome
    ++ optNat 1 ((s.heads.get h).exclusion.map (·.code)) ++ fBool (s.heads.get h).storageMark

/-- Item 7, one accumulator with its marker (spec/07 R126). -/
def OnTime.bytes (o : OnTime) : List Byte := f4 o.ms ++ fBool o.running

/-- Item 7: the Energy Monitor (spec/07 R126). -/
def State.statusEnergy (s : State) : List Byte :=
  f2 s.energy.reading ++ f4 s.energy.readingTime ++ f1 s.energy.voltageTier.code ++ f1 s.energy.floor.code
    ++ f1 s.energy.effective.code ++ f4 s.energy.spend ++ s.energy.onTime.h0.bytes ++ s.energy.onTime.h1.bytes
    ++ s.energy.onTime.h2.bytes ++ s.energy.onTime.h3.bytes

/-- Item 8: the Frame Journal (spec/08 R141). -/
def State.statusJournal (s : State) : List Byte :=
  optNat 4 s.journal.oldest ++ optNat 4 s.journal.newest ++ f4 s.journal.next ++ optNat 4 s.journal.ack
    ++ f2 s.journal.unacknowledged ++ fBool s.journal.fillRaised

/-- Item 10: the requesting station, with the reply itself counted in its queue. -/
def State.statusStation (s : State) (st : Station) : List Byte :=
  eventBytes (s.stations.get st).flags ++ eventBytes (s.stations.get st).enables
    ++ f1 ((s.ports.get (stationPort st)).queue.length + 1)

/-- The whole picture (spec/09 R164). -/
def State.statusBytes (s : State) (st : Station) : List Byte :=
  s.statusTime ++ s.statusSched ++ s.statusPlan ++ s.statusMeter ++ s.statusFrame
    ++ s.statusHead .h0 ++ s.statusHead .h1 ++ s.statusHead .h2 ++ s.statusHead .h3
    ++ s.statusEnergy ++ s.statusJournal ++ holderBytes s.flags ++ s.statusStation st

/-- STATUS_READ (spec/09 R164). -/
def execStatusRead (p : Port) (tag : Byte) (s : State) : StepOutcome :=
  .next (s.request .statusRead p tag (stationTake p (fun st t => (t, reply .ok (t.statusBytes st)))))

/-! ## Station events (spec/09 R161) -/

/-- EVENTS_READ: flags and enables are reported, and the reported flags cleared. -/
def State.takeEventsRead (s : State) (st : Station) : State × Reply :=
  (s.modStation st (fun x => { x with flags := 0#10 }),
   reply .ok (eventBytes (s.stations.get st).flags ++ eventBytes (s.stations.get st).enables))

def execEventsRead (p : Port) (tag : Byte) (s : State) : StepOutcome :=
  .next (s.request .eventsRead p tag (stationTake p (fun st t => t.takeEventsRead st)))

/-- EVENTS_ENABLE: the enable set is replaced; bits 10 to 15 are ignored. -/
def State.takeEventsEnable (s : State) (st : Station) (field : BitVec 16) : State × Reply :=
  (s.modStation st (fun x => { x with enables := field.setWidth 10 }),
   reply .ok (eventBytes (field.setWidth 10) ++ eventBytes (s.stations.get st).flags))

def execEventsEnable (p : Port) (tag : Byte) (field : BitVec 16) (s : State) : StepOutcome :=
  .next (s.request .eventsEnable p tag (stationTake p (fun st t => t.takeEventsEnable st field)))

/-! ## PORT_STATUS and PORT_RESET -/

/-- What PORT_STATUS reports of a port (spec/09 R156). -/
def State.portReport (s : State) (q : Port) : List Byte :=
  let x := s.ports.get q
  f1 (portCode q) ++ f1 x.errors.framing ++ f1 x.errors.check ++ f1 x.errors.length ++ f1 x.errors.truncated
    ++ f1 x.errors.overrun ++ f2 x.errors.total ++ f1 (s.settings.port.get q).errorThreshold ++ fBool x.thresholdRaised
    ++ f1 x.speed.code ++ f1 (s.settings.port.get q).lineSpeed.code ++ f1 x.queue.length

/-- The five counts become 0 and the marker CLEAR (spec/09 R156). -/
def State.clearErrors (s : State) (q : Port) : State :=
  s.modPort q (fun x => { x with errors := ⟨0, 0, 0, 0, 0⟩, thresholdRaised := false })

/-- PORT_STATUS (spec/09 R156). -/
def State.takePortStatus (s : State) (index : Nat) : State × Reply :=
  match portOfNat index with
  | some q => (s.clearErrors q, reply .ok (s.portReport q))
  | none => (s, bare .badIndex)

def execPortStatus (p : Port) (tag : Byte) (index : Byte) (s : State) : StepOutcome :=
  .next (s.request .portStatus p tag (fun t => t.takePortStatus index.toNat))

/-- PORT_RESET: answered OK, the reset waiting for that reply to leave the queue (spec/09 R162). -/
def takePortResetRequest (index : Nat) (s : State) : State × Reply :=
  match portOfNat index with
  | some q => (s, { status := .ok, fields := f1 (portCode q), effect := some (.portReset q) })
  | none => (s, bare .badIndex)

def execPortReset (p : Port) (tag : Byte) (index : Byte) (s : State) : StepOutcome :=
  .next (s.request .portReset p tag (takePortResetRequest index.toNat))

/-! ## The line -/

/-- UNKNOWN_KIND: a message whose kind is no request kind is answered, unless the queue has no place, which is an OVERRUN
(spec/09 R154, checks 3 and 4). A code that is a request kind is no such event (log entry 10). -/
def execUnknownKind (p : Port) (tag kind : Byte) (s : State) : StepOutcome :=
  .next (s.whileRunning (fun t =>
    if (kindOfCode kind).isSome then t
    else if t.hasPlace p then (t.rxToHunt p).enqueue p (unknownKindMessage kind tag)
    else (t.rxToHunt p).countError p .overrun))

/-- CHECK_ERROR: a completed message whose sum is wrong (spec/09 R154, check 1). -/
def execCheckError (p : Port) (s : State) : StepOutcome :=
  .next (s.whileRunning (fun t => (t.rxToHunt p).countError p .check))

/-- LENGTH_ERROR: a LEN outside 2..200, or not that of the kind (spec/09 R153; R154, check 2). -/
def execLengthError (p : Port) (s : State) : StepOutcome :=
  .next (s.whileRunning (fun t => (t.rxToHunt p).countError p .length))

/-- OVERRUN: a request completes while the queue holds four messages (spec/09 R154, check 3). While it has a place there is no
such event (log entry 10). -/
def execOverrun (p : Port) (s : State) : StepOutcome :=
  .next (s.whileRunning (fun t => if t.hasPlace p then t else (t.rxToHunt p).countError p .overrun))

/-- FRAMING_ERROR: a character with a low stop bit counts one error and ends any message in progress (spec/09 R153). -/
def execFramingError (p : Port) (s : State) : StepOutcome :=
  .next (s.whileRunning (fun t => (t.rxToHunt p).countError p .framing))

/-- INTER_BYTE_TIMER_EXPIRY: the message in progress ends as TRUNCATED (spec/09 R153). -/
def execInterByteTimerExpiry (p : Port) (s : State) : StepOutcome :=
  .next (s.whileRunning (fun t =>
    if (t.ports.get p).interByte.isSome then (t.rxToHunt p).countError p .truncated else t))

/-- MESSAGE_SENT: the oldest message has been sent (spec/09 R157). -/
def execMessageSent (p : Port) (s : State) : StepOutcome := .next (s.whileRunning (fun t => t.messageSent p))

end Sys2Proof.Machine
end

