-- ==== Sys2Proof/Machine/SequenceCommands.lean ====
section
/-! DEFINITION. The requests that steer capture: SEQ_HOLD, SEQ_RESUME and FORCE_FRAME (spec/04 sections 4.3.1 and 4.3.4),
HEAD_READMIT (spec/06 R123), RAMP_READ and RAMP_RESEED (spec/03 section 3.4). -/

namespace Sys2Proof.Machine

/-! ## The run state -/

/-- SEQ_HOLD (spec/04 R74). -/
def State.takeSeqHold (s : State) : State × Reply :=
  ({ s with sched := { s.sched.noDue with run := .held } }, bare .ok)

def execSeqHold (p : Port) (tag : Byte) (s : State) : StepOutcome :=
  .next (s.request .seqHold p tag (fun t => t.takeSeqHold))

/-- The run state becomes RUNNING with a START anchor 5 s from now; a frame in flight is marked, so that its close keeps the
anchor (spec/04 R75, R78). -/
def State.startRunning (s : State) : State :=
  ({ s with sched := { s.sched.setAnchor (s.now + Config.startDelay) .start with run := .running } } : State).modFrame
    (fun f => { f with resumedInFlight := true })

/-- The effects of a SEQ_RESUME taken while HELD (spec/04 R75). -/
def State.resume (s : State) : State :=
  let t := s.startRunning.askReading
  (if t.afterLimitMet then t.enterPhase t.plan.successorIndex else t).reschedule

/-- What the reply to a SEQ_RESUME carries (spec/04 R75). -/
def State.resumeBytes (s : State) : List Byte :=
  f1 s.sched.run.code ++ optField 4 s.sched.due ++ optField 4 s.sched.openTime ++ f1 s.noDueReason.code

/-- SEQ_RESUME (spec/04 R75). DESIGN CHOICE (log entry 35): the reply carries the state after an open that the computation
brings about at once, so that due time and open time are then absent with reason IN_FRAME. -/
def State.takeSeqResume (s : State) : State × Reply :=
  match s.sched.run with
  | .running => (s, reply .ok s.resumeBytes)
  | .held => (s.resume, reply .ok s.resume.resumeBytes)

def execSeqResume (p : Port) (tag : Byte) (s : State) : StepOutcome :=
  .next (s.request .seqResume p tag (fun t => t.takeSeqResume))

/-! ## FORCE_FRAME -/

/-- D of a forced frame: now plus the largest lead of the group (spec/04 R81). -/
def State.forcedDue (s : State) : Int := s.now + s.largestLead s.group

/-- FORCE_FRAME (spec/04 R81). -/
def State.takeForceFrame (s : State) : State × Reply :=
  if s.energy.effective = .halt then (s, bare .halted)
  else if s.frame.isSome then (s, bare .busy)
  else if emptyGroup s.group then (s, bare .idle)
  else
    (s.openFrame s.forcedDue s.group true,
     reply .ok (f4 s.journal.restart.next ++ fTime s.forcedDue))

def execForceFrame (p : Port) (tag : Byte) (s : State) : StepOutcome :=
  .next (s.request .forceFrame p tag (fun t => t.takeForceFrame))

/-! ## HEAD_READMIT -/

/-- The heads that an index names: one, all four (FFh), or none of them (`none`) (spec/03 R63; spec/06 R123). -/
def headsOfIndex (index : Nat) : Option HeadSet :=
  if index = 255 then some (Four.all true) else (headOfNat index).map (fun h => (Four.all false).set h true)

/-- A change of every head of a set. -/
def State.changeHeads (s : State) (g : HeadSet) (f : Head → State → State) : State :=
  forHeads (fun h t => if g.get h then f h t else t) s

/-- Admission, reason and miss count of one head. -/
def HeadSeq.admissionBytes (x : HeadSeq) : List Byte :=
  fBool x.exclusion.isSome ++ optNat 1 (x.exclusion.map (·.code)) ++ f1 x.miss

/-- Admission, reason and miss count of all four heads. -/
def State.admissionBytes (s : State) : List Byte :=
  s.heads.h0.admissionBytes ++ s.heads.h1.admissionBytes ++ s.heads.h2.admissionBytes ++ s.heads.h3.admissionBytes

/-- HEAD_READMIT (spec/06 R123). -/
def State.takeHeadReadmit (s : State) (index : Nat) : State × Reply :=
  match headsOfIndex index with
  | none => (s, reply .badIndex s.admissionBytes)
  | some g =>
    let t := s.changeHeads g (fun h u => u.readmit h)
    (t, reply .ok t.admissionBytes)

def execHeadReadmit (p : Port) (tag : Byte) (index : Byte) (s : State) : StepOutcome :=
  .next (s.request .headReadmit p tag (fun t => t.takeHeadReadmit index.toNat))

/-! ## The ramp records -/

/-- The last ticket summary as sent: presence byte, then 13 bytes (spec/03 R42; spec/09 R158). -/
def summaryBytes : Option TicketSummary → List Byte
  | none => 0#8 :: zeroBytes 13
  | some t => 1#8 :: (f4 t.sequence ++ f4 t.exposure ++ f2 t.gain ++ f2 t.aperture ++ [ticketFlagsByte t.flags])

/-- A ramp record with the correction limit in force (spec/03 R62). -/
def RampRecord.bytes (r : RampRecord) (limit : Nat) : List Byte :=
  fBool r.need.isSome ++ optNat 2 r.need ++ leBytes 2 r.correction ++ optNat 2 r.lastLevel ++ summaryBytes r.lastTicket
    ++ f2 limit

/-- RAMP_READ (spec/03 R62). -/
def State.takeRampRead (s : State) (index : Nat) : State × Reply :=
  match headOfNat index with
  | none => (s, bare .badIndex)
  | some h => (s, reply .ok ((s.ramps.get h).bytes s.settings.correctionLimit))

def execRampRead (p : Port) (tag : Byte) (index : Byte) (s : State) : StepOutcome :=
  .next (s.request .rampRead p tag (fun t => t.takeRampRead index.toNat))

/-- RAMP_RESEED (spec/03 R63). -/
def State.takeRampReseed (s : State) (index : Nat) : State × Reply :=
  match headsOfIndex index with
  | none => (s, bare .badIndex)
  | some g => (s.changeHeads g (fun h u => u.modRamp h RampRecord.reseeded), bare .ok)

def execRampReseed (p : Port) (tag : Byte) (index : Byte) (s : State) : StepOutcome :=
  .next (s.request .rampReseed p tag (fun t => t.takeRampReseed index.toNat))

end Sys2Proof.Machine
end

