-- ==== Sys2Proof/Machine/SettingCommands.lean ====
section
/-! DEFINITION. CONFIG_WRITE and CONFIG_READ (spec/11 section 11.3), with the effects that act at the write. -/

namespace Sys2Proof.Machine

/-- Every correction clamped to the correction limit (spec/03 R61). DESIGN CHOICE (log entry 42): at the write, so that a RESULT
taken with a write that cuts the correction may leave another value in the other order, against R61's remark. -/
def State.clampCorrections (s : State) : State :=
  forHeads (fun h t => t.modRamp h (fun r =>
    { r with correction := clampInt (-(s.settings.correctionLimit : Int)) s.settings.correctionLimit r.correction })) s

/-- The period timer restarted with the period as it stands (spec/02 R38). -/
def State.restartPeriod (s : State) : State :=
  { s with meter := { s.meter with periodTimer := some (secondsMs s.settings.meterPeriod) } }

/-- An inactive trigger takes the inactive level of the polarity as it stands; an asserted one is held (spec/05 R93). -/
def Trigger.followPolarity (pol : Polarity) (t : Trigger) : Trigger :=
  if t.asserted then t else { t with level := !pol.activeLevel }

/-- What a write does at once, after the value has been stored (spec/11 R179). -/
def State.writeEffect (s : State) : Setting → State
  | .meterPeriod => s.restartPeriod
  | .correctionLimit => s.clampCorrections
  | .allowance => (s.judgeFloor.judgeTier).finish s.energy.effective
  | .fillLevel => s.judgeFill
  | .errorThreshold p => s.judgeThreshold p
  | .missLimit h => (s.judgeMisses h).finish s.energy.effective
  | .lead _ => s.reschedule
  | .cycleReserve _ => s.reschedule
  | .polarity h => s.modTrigger h (Trigger.followPolarity (s.headSettings h).polarity)
  | .key | .calibration | .hysteresis | .darkFloor | .settle | .edge | .shutterBase => s
  | .economyThreshold | .reserveThreshold | .haltThreshold | .tierHysteresis | .reserveMask => s
  | .push _ | .lineSpeed _ => s
  | .helloTimeout _ | .readyTimeout _ | .resultTimeout _ | .standbyThreshold _ => s
  | .controls _ | .current _ | .triggerMode _ | .pulseWidth _ => s

/-- The effect that waits for the reply of a line speed write (spec/09 R152, R157). -/
def waitingEffect (st : Settings) : Setting → Option Effect
  | .lineSpeed p => some (.lineSpeed p (st.port.get p).lineSpeed)
  | .key | .calibration | .meterPeriod | .hysteresis | .darkFloor | .settle | .edge | .shutterBase | .correctionLimit => none
  | .economyThreshold | .reserveThreshold | .haltThreshold | .tierHysteresis | .allowance | .reserveMask | .fillLevel => none
  | .push _ | .errorThreshold _ => none
  | .lead _ | .helloTimeout _ | .readyTimeout _ | .resultTimeout _ | .standbyThreshold _ | .missLimit _ => none
  | .cycleReserve _ | .controls _ | .current _ | .triggerMode _ | .pulseWidth _ | .polarity _ => none

/-- A write of a setting of the catalogue: stored, its effect at the write taken, and answered with the former and the stored
value (spec/11 R179). -/
def State.writeSetting (s : State) (item index : Byte) (value : BitVec 32) (x : Setting) : State × Reply :=
  let stored := x.rule.settle value
  let t : State := { s with settings := s.settings.store stored.1 x }
  (t.writeEffect x,
   { status := stored.2
     fields := [item, index] ++ leBytes 4 (s.settings.value x) ++ leBytes 4 stored.1
     effect := waitingEffect t.settings x })

/-- CONFIG_WRITE (spec/11 R179). -/
def State.takeConfigWrite (s : State) (item index : Byte) (value : BitVec 32) : State × Reply :=
  match settingOf item.toNat index.toNat with
  | none => (s, bare .badIndex)
  | some x => s.writeSetting item index value x

def execConfigWrite (p : Port) (tag : Byte) (item index : Byte) (value : BitVec 32) (s : State) : StepOutcome :=
  .next (s.request .configWrite p tag (fun t => t.takeConfigWrite item index value))

/-- CONFIG_READ (spec/11 R180). -/
def State.takeConfigRead (s : State) (item index : Byte) : State × Reply :=
  match settingOf item.toNat index.toNat with
  | none => (s, bare .badIndex)
  | some x => (s, reply .ok ([item, index] ++ leBytes 4 (s.settings.value x)))

def execConfigRead (p : Port) (tag : Byte) (item index : Byte) (s : State) : StepOutcome :=
  .next (s.request .configRead p tag (fun t => t.takeConfigRead item index))

end Sys2Proof.Machine
end

