-- ==== Sys2Proof/Machine/SharedCommands.lean ====
section
/-! DEFINITION. The shared word area and the shared flags (spec/10). -/

namespace Sys2Proof.Machine

/-- BULLETIN_CHANGED at each station other than the writer (spec/10 R170). -/
def State.raiseBulletin (s : State) : Port → State
  | .ul => s.raiseAt .sv .bulletinChanged
  | .sv => s.raiseAt .ul .bulletinChanged
  | .h0 | .h1 | .h2 | .h3 => s.raiseBoth .bulletinChanged

/-- A word of the requester's own window takes a value (spec/10 R170). -/
def State.writeWord (s : State) (p : Port) (i : Idx) (value : BitVec 16) : State :=
  { s with windows := s.windows.set p ((s.windows.get p).set i value) }

/-- BULLETIN_WRITE (spec/10 R170). -/
def State.takeBulletinWrite (s : State) (p : Port) (index : Byte) (value : BitVec 16) : State × Reply :=
  match idxOfNat index.toNat with
  | none => (s, bare .badIndex)
  | some i =>
    ((s.writeWord p i value).raiseBulletin p,
     reply .ok (f1 (portCode p) ++ [index] ++ toBytes2 ((s.windows.get p).get i) ++ toBytes2 value))

def execBulletinWrite (p : Port) (tag : Byte) (index : Byte) (value : BitVec 16) (s : State) : StepOutcome :=
  .next (s.request .bulletinWrite p tag (fun t => t.takeBulletinWrite p index value))

/-- The eight words of a window, in index order. -/
def windowBytes (w : Eight (BitVec 16)) : List Byte :=
  toBytes2 w.i0 ++ toBytes2 w.i1 ++ toBytes2 w.i2 ++ toBytes2 w.i3 ++ toBytes2 w.i4 ++ toBytes2 w.i5 ++ toBytes2 w.i6
    ++ toBytes2 w.i7

/-- BULLETIN_READ (spec/10 R171). -/
def State.takeBulletinRead (s : State) (window : Nat) : State × Reply :=
  match portOfNat window with
  | none => (s, bare .badIndex)
  | some q => (s, reply .ok (f1 (portCode q) ++ windowBytes (s.windows.get q)))

def execBulletinRead (p : Port) (tag : Byte) (window : Byte) (s : State) : StepOutcome :=
  .next (s.request .bulletinRead p tag (fun t => t.takeBulletinRead window.toNat))

/-- Whether a flag is HELD, as its previous state is sent. -/
def heldByte (holder : Option Port) : List Byte := fBool holder.isSome

/-- FLAG_SET: test and set (spec/10 R172). -/
def State.takeFlagSet (s : State) (p : Port) (index : Byte) : State × Reply :=
  match idxOfNat index.toNat with
  | none => (s, bare .badIndex)
  | some i =>
    match s.flags.get i with
    | none => ({ s with flags := s.flags.set i (some p) }, reply .ok ([index] ++ heldByte none ++ [holderByte (some p)]))
    | some q => (s, reply .ok ([index] ++ heldByte (some q) ++ [holderByte (some q)]))

def execFlagSet (p : Port) (tag : Byte) (flag : Byte) (s : State) : StepOutcome :=
  .next (s.request .flagSet p tag (fun t => t.takeFlagSet p flag))

/-- FLAG_CLEAR: by the holder, or by SV whatever the holder (spec/10 R173). DESIGN CHOICE (log entry 15): every reply with
fields begins with the flag index. -/
def State.takeFlagClear (s : State) (p : Port) (index : Byte) : State × Reply :=
  match idxOfNat index.toNat with
  | none => (s, bare .badIndex)
  | some i =>
    match s.flags.get i with
    | none => (s, reply .ok ([index] ++ heldByte none ++ [holderByte none]))
    | some q =>
      if q = p ∨ p = .sv then
        ({ s with flags := s.flags.set i none }, reply .ok ([index] ++ heldByte (some q) ++ [holderByte (some q)]))
      else (s, reply .notHolder ([index] ++ [holderByte (some q)]))

def execFlagClear (p : Port) (tag : Byte) (flag : Byte) (s : State) : StepOutcome :=
  .next (s.request .flagClear p tag (fun t => t.takeFlagClear p flag))

/-- FLAG_READ (spec/10 R174). -/
def execFlagRead (p : Port) (tag : Byte) (s : State) : StepOutcome :=
  .next (s.request .flagRead p tag (fun t => (t, reply .ok (holderBytes t.flags))))

end Sys2Proof.Machine
end

