-- ==== Sys2Proof/Machine/Receive.lean ====
section
/-! DEFINITION. CHARACTER_RECEIVED: the receive assembly of a port (spec/09 R153). The character that completes a message makes
the checks of R154, and the message is taken within the same event. -/

namespace Sys2Proof.Machine

/-- What a completed message with a right sum does: the meaning of the command that its body spells (spec/09 R154). A body
spells no command but those named here. -/
def takeCommand (c : Instr) (s : State) : StepOutcome :=
  match c with
  | .hello p t => execHello p t s
  | .ready p t q => execReady p t q s
  | .result p t q l f b => execResult p t q l f b s
  | .statusRead p t => execStatusRead p t s
  | .eventsRead p t => execEventsRead p t s
  | .eventsEnable p t v => execEventsEnable p t v s
  | .portStatus p t i => execPortStatus p t i s
  | .portReset p t i => execPortReset p t i s
  | .journalRead p t q n => execJournalRead p t q n s
  | .journalAck p t q => execJournalAck p t q s
  | .clockSet p t v => execClockSet p t v s
  | .clockRead p t => execClockRead p t s
  | .configWrite p t i x v => execConfigWrite p t i x v s
  | .configRead p t i x => execConfigRead p t i x s
  | .planClear p t => execPlanClear p t s
  | .phaseAppend p t r => execPhaseAppend p t r s
  | .phaseReplace p t i r => execPhaseReplace p t i r s
  | .ladderPut p t n l => execLadderPut p t n l s
  | .commit p t i => execCommit p t i s
  | .planRead p t b i => execPlanRead p t b i s
  | .planCopy p t => execPlanCopy p t s
  | .seqHold p t => execSeqHold p t s
  | .seqResume p t => execSeqResume p t s
  | .forceFrame p t => execForceFrame p t s
  | .headReadmit p t i => execHeadReadmit p t i s
  | .rampRead p t i => execRampRead p t i s
  | .rampReseed p t i => execRampReseed p t i s
  | .bulletinWrite p t i v => execBulletinWrite p t i v s
  | .bulletinRead p t w => execBulletinRead p t w s
  | .flagSet p t i => execFlagSet p t i s
  | .flagClear p t i => execFlagClear p t i s
  | .flagRead p t => execFlagRead p t s
  | .unknownKind p t k => execUnknownKind p t k s
  | .lengthError p => execLengthError p s
  | .checkError _ | .overrun _ | .framingError _ | .interByteTimerExpiry _ | .messageSent _ => .next s
  | .pulseEdge _ | .settleElapsed | .readingCompletion | .periodTimerExpiry | .secondsCountAdvance => .next s
  | .helloTimerExpiry _ | .readyTimerExpiry _ | .resultTimerExpiry _ | .graceTimerExpiry _ | .standbyTimerExpiry _ => .next s
  | .armTimerExpiry | .bulbTimerExpiry _ | .pulseWidthElapsed _ | .measurementTimerExpiry _ => .next s
  | .mainSupplyLoss | .nrstAssert | .coldStart _ | .warmStart _ | .characterReceived _ _ => .next s

/-- The assembly moves on and the inter-byte timer restarts (spec/09 R153). -/
def State.assemble (s : State) (p : Port) (a : Assembly) : State :=
  s.modPort p (fun x => { x with rx := a, interByte := some Config.interByteMs })

/-- The lead byte of a message (spec/09 R153). -/
def leadByte : Byte := 0xC5#8

/-- A character in AWAIT_LEN (spec/09 R153). -/
def State.receiveLen (s : State) (p : Port) (char : Byte) : StepOutcome :=
  if 2 ≤ char.toNat ∧ char.toNat ≤ 200 then .next (s.assemble p (.body char.toNat [])) else execLengthError p s

/-- The assembly after one more body character, `got` being all of them (spec/09 R153). -/
def nextBody (len : Nat) (got : List Byte) : Assembly := if len ≤ got.length then .awaitChk got else .body len got

/-- A character in AWAIT_CHK completes the message; the assembly returns to HUNT (spec/09 R153, R154). -/
def State.complete (s : State) (p : Port) (got : List Byte) (chk : Byte) : StepOutcome :=
  if frameSum got chk = 0#8 then takeCommand (commandOfBody p got) s else execCheckError p s

/-- A character received with its stop bit high (spec/09 R153). -/
def State.receive (s : State) (p : Port) (char : Byte) : StepOutcome :=
  match (s.ports.get p).rx with
  | .hunt => .next (if char = leadByte then s.assemble p .awaitLen else s)
  | .awaitLen => s.receiveLen p char
  | .body len got => .next (s.assemble p (nextBody len (got ++ [char])))
  | .awaitChk got => s.complete p got char

/-- CHARACTER_RECEIVED; while the part is stopped no character is taken (spec/09 R153; spec/11 R176). -/
def execCharacterReceived (p : Port) (char : Byte) (s : State) : StepOutcome :=
  if s.runs then s.receive p char else .next s

end Sys2Proof.Machine
end

