-- ==== Sys2Proof/Machine/SupplyCommands.lean ====
section
/-! DEFINITION. Loss of the main supply, the reset line, and the two kinds of start with the resumption (spec/11 sections 11.1
and 11.2). -/

namespace Sys2Proof.Machine

/-! ## Stopping -/

/-- A port while the part is stopped and right after a warm start: queue empty, HUNT (spec/09 R168; spec/11 R176). -/
def PortState.dark (x : PortState) : PortState := { x with queue := [], rx := .hunt, interByte := none }

/-- A trigger output inactive at a polarity, its timers discarded (spec/05 R93, R101). -/
def inactiveTrigger (pol : Polarity) : Trigger :=
  { asserted := false, level := !pol.activeLevel, bulb := none, pulse := none }

/-- The meter with no reading in progress and no timer: LSUPEN off (spec/02 R41). -/
def Meter.dark (m : Meter) : Meter :=
  { m with activity := .idle, settleTimer := none, gateTimer := none, periodTimer := none }

/-- The part stops outside the retention domain: rails, triggers and LSUPEN off, lines idle, every elapsed-time timer gone
(spec/11 R176; spec/04 R69). -/
def State.goDark (s : State) : State :=
  { s with
    heads := ⟨s.heads.h0.enter .off, s.heads.h1.enter .off, s.heads.h2.enter .off, s.heads.h3.enter .off⟩
    triggers := ⟨inactiveTrigger s.settings.head.h0.polarity, inactiveTrigger s.settings.head.h1.polarity,
      inactiveTrigger s.settings.head.h2.polarity, inactiveTrigger s.settings.head.h3.polarity⟩
    meter := s.meter.dark
    armTimer := none
    energy := { s.energy with measureTimer := none }
    ports := ⟨s.ports.h0.dark, s.ports.h1.dark, s.ports.h2.dark, s.ports.h3.dark, s.ports.ul.dark, s.ports.sv.dark⟩ }

/-- MAIN_SUPPLY_LOSS (spec/11 R176). -/
def execMainSupplyLoss (s : State) : StepOutcome :=
  .next { s.goDark with supply := { s.supply with mainPresent := false } }

/-- NRST_ASSERT (spec/11 R176). -/
def execNrstAssert (s : State) : StepOutcome :=
  .next { s.goDark with supply := { s.supply with nrstAsserted := true } }

/-! ## Cold start -/

/-- Every block at its cold start values, with the first battery measurement taken (spec/11 R177). -/
def State.coldStarted (s : State) (bsense : List Nat) : State :=
  ({ State.reset with bsense := s.bsense.present bsense, pending := s.pending } : State).measure

/-- COLD_START (spec/11 R177). -/
def execColdStart (bsense : List Nat) (s : State) : StepOutcome := .next (s.coldStarted bsense)

/-! ## Warm start: the steps of spec/11 R178 -/

/-- A port at a warm start: errors cleared, the retained line speed setting in use (spec/09 R168). -/
def PortState.warm (x : PortState) (speed : LineSpeed) : PortState :=
  { x.dark with errors := ⟨0, 0, 0, 0, 0⟩, thresholdRaised := false, speed := speed }

/-- A Head Sequencer at a warm start: OFF, timers stopped, marks clear; misses and admission retained (spec/06 R125). -/
def HeadSeq.warm (x : HeadSeq) : HeadSeq := { x.enter .off with storageMark := false, keepOff := false }

/-- The meter at both kinds of start, before its first reading (spec/02 R40, R41). -/
def Meter.fresh : Meter :=
  { activity := .idle, gateSelection := .s1, readingGate := .s1, readingEdge := .rising, pulses := 0, latest := none,
    previousState := none, previousLevel := none, settleTimer := none, gateTimer := none, periodTimer := none }

/-- A station at a warm start: RESUMED alone, the enables retained (spec/09 R168). -/
def StationState.warm (x : StationState) : StationState := { x with flags := Event.resumed.mask }

/-- Step 1: the values outside the retention domain. -/
def State.warmValues (s : State) : State :=
  let t := s.goDark
  { t with
    supply := ⟨true, false⟩
    time := { t.time with sinceSet := 0 }
    heads := ⟨t.heads.h0.warm, t.heads.h1.warm, t.heads.h2.warm, t.heads.h3.warm⟩
    meter := Meter.fresh
    flags := Eight.all none
    stations := ⟨t.stations.ul.warm, t.stations.sv.warm⟩
    ports := ⟨t.ports.h0.warm t.settings.port.h0.lineSpeed, t.ports.h1.warm t.settings.port.h1.lineSpeed,
      t.ports.h2.warm t.settings.port.h2.lineSpeed, t.ports.h3.warm t.settings.port.h3.lineSpeed,
      t.ports.ul.warm t.settings.port.ul.lineSpeed, t.ports.sv.warm t.settings.port.sv.lineSpeed⟩ }

/-- Step 2, one head: on-time above 0 is accounted as at a rail off, and the marker is STOPPED (spec/07 R130, R140). -/
def State.settleOnTime (h : Head) (s : State) : State :=
  (if 0 < (s.energy.onTime.get h).ms then s.account h else s).modOnTime h (fun o => { o with running := false })

/-- Step 3: the due times missed before the new anchor, while RUNNING (spec/04 R83). -/
def State.countMissed (s : State) : State :=
  match s.sched.run with
  | .running => { s with sched := s.sched.addSkipped (s.missedDueTimes (s.now + Config.startDelay)) }
  | .held => s

/-- A member entry of a frame that lost its power (spec/05 R101). -/
def Member.losePower (m : Member) : Member := if m.outcome.isNone then { m with outcome := some .lostPower } else m

/-- The frame that lost its power, with the pending skipped count added to its own (spec/05 R101). DEDUCED (log entry 11): it is
LOST_POWER whatever its sync state, although the rows of spec/05 R97 name an abandonment and an abort first. -/
def Frame.losePower (f : Frame) (pending : Nat) : Frame :=
  { f with
    members := ⟨f.members.h0.map Member.losePower, f.members.h1.map Member.losePower, f.members.h2.map Member.losePower,
      f.members.h3.map Member.losePower⟩
    outcome := some .lostPower
    skipped := saturate Config.maxSkipped (f.skipped + pending) }

/-- Step 4: the interrupted frame is closed with LOST_POWER; the Scheduler sets no anchor and computes nothing (spec/05 R101;
spec/04 R78). -/
def State.closeInterrupted (s : State) : State :=
  match s.frame with
  | none => s
  | some f => ({ s with sched := { s.sched with skipped := 0 } } : State).takeUpClose (f.losePower s.sched.skipped)

/-- Step 5: budget floor, measurement with its timer, effective tier (spec/07 R140). DESIGN CHOICE (log entry 39): a change of
the tier in this step or in step 2 lets the Scheduler compute nothing and count nothing; step 7 does. -/
def State.resumeEnergy (s : State) : State :=
  let t := s.judgeFloor
  ({ t with energy := { t.energy with measureTimer := some Config.measurementMs } } : State).measure

/-- Step 6: the meter's first reading (spec/02 R41). -/
def State.resumeMeter (s : State) : State := { s with meter := s.meter.start s.settings }

/-- Step 7: while RUNNING a START anchor 5 s from now and the due time from it; while HELD no due time (spec/04 R83). -/
def State.resumeSchedule (s : State) : State :=
  match s.sched.run with
  | .running =>
    ({ s with sched := s.sched.setAnchor (s.now + Config.startDelay) .start } : State).reschedule
  | .held => { s with sched := s.sched.noDue }

/-- A warm start, as one event (spec/11 R178). DESIGN CHOICE (log entry 44): step 2 accounts the heads in the order 0 to 3, which
R140 and R178 leave open. -/
def State.warmStarted (s : State) (bsense : List Nat) : State :=
  let t : State := { s with bsense := s.bsense.present bsense }
  (forHeads State.settleOnTime t.warmValues).countMissed.closeInterrupted.resumeEnergy.resumeMeter.resumeSchedule

/-- WARM_START (spec/11 R178). -/
def execWarmStart (bsense : List Nat) (s : State) : StepOutcome := .next (s.warmStarted bsense)

end Sys2Proof.Machine
end

