-- ==== Sys2Proof/Machine/TimerCommands.lean ====
section
/-! DEFINITION. The expiries of the Head Sequencers' and the Frame Unit's timers. A timer that is stopped has no expiry, so the
command then changes nothing (spec/06 R102; log entry 5). -/

namespace Sys2Proof.Machine

/-- A member fails one of its own steps: outcome, miss, rail off (spec/06 R108, R111, R115). -/
def State.failMember (s : State) (h : Head) (o : EntryOutcome) : State :=
  (((s.decideEntry h o).countMiss h).railOff h).finish s.energy.effective

/-- The hello timer expires in WAKING (spec/06 R108). -/
def execHelloTimerExpiry (h : Head) (s : State) : StepOutcome :=
  .next (s.whileRunning (fun t => if (t.heads.get h).hello.isSome then t.failMember h .noHello else t))

/-- The ready timer expires in TICKETED (spec/06 R111). -/
def execReadyTimerExpiry (h : Head) (s : State) : StepOutcome :=
  .next (s.whileRunning (fun t => if (t.heads.get h).ready.isSome then t.failMember h .noReady else t))

/-- The result timer expires in REPORTING (spec/06 R115). -/
def execResultTimerExpiry (h : Head) (s : State) : StepOutcome :=
  .next (s.whileRunning (fun t => if (t.heads.get h).result.isSome then t.failMember h .noResult else t))

/-- The standby conditions at the end of the grace (spec/06 R116). -/
def State.standbyAllowed (s : State) (h : Head) : Bool :=
  (match s.frame with
    | none => false
    | some f => decide (f.interval ≤ (s.headSettings h).standbyThreshold))
  && decide (s.energy.effective ≠ .halt) && (s.heads.get h).exclusion.isNone && !(s.heads.get h).keepOff

/-- The head enters STANDBY with its standby timer (spec/06 R116). -/
def State.enterStandby (s : State) (h : Head) : State :=
  s.modHead h (fun x =>
    { x.enter .standby with standby := some (secondsMs (s.headSettings h).standbyThreshold), keepOff := false })

/-- The standby decision (spec/06 R116). -/
def State.leaveClosing (s : State) (h : Head) : State :=
  if s.standbyAllowed h then s.enterStandby h else s.railOff h

/-- The 2 s grace of CLOSING ends (spec/06 R116). -/
def execGraceTimerExpiry (h : Head) (s : State) : StepOutcome :=
  .next (s.whileRunning (fun t =>
    if (t.heads.get h).grace.isSome then ((t.applyStorageMark h).leaveClosing h).finish t.energy.effective else t))

/-- The standby timer expires (spec/06 R117). -/
def execStandbyTimerExpiry (h : Head) (s : State) : StepOutcome :=
  .next (s.whileRunning (fun t =>
    if (t.heads.get h).standby.isSome then (t.railOff h).finish t.energy.effective else t))

/-- The arm window of a LOCKED frame runs out (spec/05 R90). -/
def execArmTimerExpiry (s : State) : StepOutcome :=
  .next (s.whileRunning (fun t => if t.armTimer.isSome then t.abandon.finish t.energy.effective else t))

/-- A head in EXPOSING enters REPORTING with its result timer; any other head ignores the exposure end (spec/06 R112). -/
def State.exposureEnd (s : State) (h : Head) : State :=
  if (s.heads.get h).state = .exposing then
    s.modHead h (fun x => { x.enter .reporting with result := some (secondsMs (s.headSettings h).resultTimeout) })
  else s

/-- A member's bulb timer expires: the exposure end, with a BULB trigger released (spec/05 R94, R96). -/
def execBulbTimerExpiry (h : Head) (s : State) : StepOutcome :=
  .next (s.whileRunning (fun t =>
    if (t.triggers.get h).bulb.isSome then
      ((if (t.firing h).map (·.2) = some .bulb then t.release h else t).stopBulb h).exposureEnd h
    else t))

/-- The pulse width of a TIMED trigger elapses (spec/05 R95). -/
def execPulseWidthElapsed (h : Head) (s : State) : StepOutcome :=
  .next (s.whileRunning (fun t => if (t.triggers.get h).pulse.isSome then t.release h else t))

end Sys2Proof.Machine
end

