-- ==== Sys2Proof/Machine/Dispatch.lean ====
section
/-! DEFINITION. Which meaning each command has: one arm per row of spec/opcode_table.json. -/

namespace Sys2Proof.Machine

def exec (i : Instr) (s : State) : Host.Outcome State Fault Refusal :=
  match i with
  | .hello port tag => Sys2Proof.Machine.execHello port tag s
  | .ready port tag sequence => Sys2Proof.Machine.execReady port tag sequence s
  | .result port tag sequence level storageFree flags => Sys2Proof.Machine.execResult port tag sequence level storageFree flags s
  | .statusRead port tag => Sys2Proof.Machine.execStatusRead port tag s
  | .eventsRead port tag => Sys2Proof.Machine.execEventsRead port tag s
  | .eventsEnable port tag field => Sys2Proof.Machine.execEventsEnable port tag field s
  | .portStatus port tag index => Sys2Proof.Machine.execPortStatus port tag index s
  | .portReset port tag index => Sys2Proof.Machine.execPortReset port tag index s
  | .journalRead port tag start count => Sys2Proof.Machine.execJournalRead port tag start count s
  | .journalAck port tag sequence => Sys2Proof.Machine.execJournalAck port tag sequence s
  | .clockSet port tag count => Sys2Proof.Machine.execClockSet port tag count s
  | .clockRead port tag => Sys2Proof.Machine.execClockRead port tag s
  | .configWrite port tag item index value => Sys2Proof.Machine.execConfigWrite port tag item index value s
  | .configRead port tag item index => Sys2Proof.Machine.execConfigRead port tag item index s
  | .planClear port tag => Sys2Proof.Machine.execPlanClear port tag s
  | .phaseAppend port tag phase => Sys2Proof.Machine.execPhaseAppend port tag phase s
  | .phaseReplace port tag index phase => Sys2Proof.Machine.execPhaseReplace port tag index phase s
  | .ladderPut port tag count slots => Sys2Proof.Machine.execLadderPut port tag count slots s
  | .commit port tag entry => Sys2Proof.Machine.execCommit port tag entry s
  | .planRead port tag selector item => Sys2Proof.Machine.execPlanRead port tag selector item s
  | .planCopy port tag => Sys2Proof.Machine.execPlanCopy port tag s
  | .seqHold port tag => Sys2Proof.Machine.execSeqHold port tag s
  | .seqResume port tag => Sys2Proof.Machine.execSeqResume port tag s
  | .forceFrame port tag => Sys2Proof.Machine.execForceFrame port tag s
  | .headReadmit port tag index => Sys2Proof.Machine.execHeadReadmit port tag index s
  | .rampRead port tag index => Sys2Proof.Machine.execRampRead port tag index s
  | .rampReseed port tag index => Sys2Proof.Machine.execRampReseed port tag index s
  | .bulletinWrite port tag index value => Sys2Proof.Machine.execBulletinWrite port tag index value s
  | .bulletinRead port tag window => Sys2Proof.Machine.execBulletinRead port tag window s
  | .flagSet port tag flag => Sys2Proof.Machine.execFlagSet port tag flag s
  | .flagClear port tag flag => Sys2Proof.Machine.execFlagClear port tag flag s
  | .flagRead port tag => Sys2Proof.Machine.execFlagRead port tag s
  | .unknownKind port tag kind => Sys2Proof.Machine.execUnknownKind port tag kind s
  | .checkError port => Sys2Proof.Machine.execCheckError port s
  | .lengthError port => Sys2Proof.Machine.execLengthError port s
  | .overrun port => Sys2Proof.Machine.execOverrun port s
  | .framingError port => Sys2Proof.Machine.execFramingError port s
  | .interByteTimerExpiry port => Sys2Proof.Machine.execInterByteTimerExpiry port s
  | .messageSent port => Sys2Proof.Machine.execMessageSent port s
  | .pulseEdge edge => Sys2Proof.Machine.execPulseEdge edge s
  | .settleElapsed => Sys2Proof.Machine.execSettleElapsed s
  | .readingCompletion => Sys2Proof.Machine.execReadingCompletion s
  | .periodTimerExpiry => Sys2Proof.Machine.execPeriodTimerExpiry s
  | .secondsCountAdvance => Sys2Proof.Machine.execSecondsCountAdvance s
  | .helloTimerExpiry head => Sys2Proof.Machine.execHelloTimerExpiry head s
  | .readyTimerExpiry head => Sys2Proof.Machine.execReadyTimerExpiry head s
  | .resultTimerExpiry head => Sys2Proof.Machine.execResultTimerExpiry head s
  | .graceTimerExpiry head => Sys2Proof.Machine.execGraceTimerExpiry head s
  | .standbyTimerExpiry head => Sys2Proof.Machine.execStandbyTimerExpiry head s
  | .armTimerExpiry => Sys2Proof.Machine.execArmTimerExpiry s
  | .bulbTimerExpiry head => Sys2Proof.Machine.execBulbTimerExpiry head s
  | .pulseWidthElapsed head => Sys2Proof.Machine.execPulseWidthElapsed head s
  | .measurementTimerExpiry bsense => Sys2Proof.Machine.execMeasurementTimerExpiry bsense s
  | .mainSupplyLoss => Sys2Proof.Machine.execMainSupplyLoss s
  | .nrstAssert => Sys2Proof.Machine.execNrstAssert s
  | .coldStart bsense => Sys2Proof.Machine.execColdStart bsense s
  | .warmStart bsense => Sys2Proof.Machine.execWarmStart bsense s
  | .characterReceived port char => Sys2Proof.Machine.execCharacterReceived port char s

end Sys2Proof.Machine
end

