-- ==== Sys2Proof/Machine/Step.lean ====
section
/-! DEFINITION. The step: the command at the front of the queue is taken; on an empty queue the part's own time passes (log
entry 1). -/

namespace Sys2Proof.Machine

/-- A timer that has run out and whose expiry has not been taken. -/
def timerDue (t : Option Nat) : Bool := t == some 0

/-- The expiry of one head's timers that is due, in a fixed order (log entry 5). -/
def State.headEvent (s : State) (h : Head) : Option Instr :=
  if timerDue (s.heads.get h).hello then some (.helloTimerExpiry h)
  else if timerDue (s.heads.get h).ready then some (.readyTimerExpiry h)
  else if timerDue (s.heads.get h).result then some (.resultTimerExpiry h)
  else if timerDue (s.triggers.get h).bulb then some (.bulbTimerExpiry h)
  else if timerDue (s.triggers.get h).pulse then some (.pulseWidthElapsed h)
  else if timerDue (s.heads.get h).grace then some (.graceTimerExpiry h)
  else if timerDue (s.heads.get h).standby then some (.standbyTimerExpiry h)
  else none

/-- The expiry of a port's inter-byte timer that is due. -/
def State.portEvent (s : State) (p : Port) : Option Instr :=
  if timerDue (s.ports.get p).interByte then some (.interByteTimerExpiry p) else none

/-- The event of the running part that is due, in a fixed order (log entry 5). -/
def State.runningEvent (s : State) : Option Instr :=
  if timerDue s.meter.settleTimer then some .settleElapsed
  else if timerDue s.meter.gateTimer then some .readingCompletion
  else if timerDue s.meter.periodTimer then some .periodTimerExpiry
  else if timerDue s.energy.measureTimer then some (.measurementTimerExpiry [])
  else if timerDue s.armTimer then some .armTimerExpiry
  else (s.headEvent .h0).or ((s.headEvent .h1).or ((s.headEvent .h2).or ((s.headEvent .h3).or
    ((s.portEvent .h0).or ((s.portEvent .h1).or ((s.portEvent .h2).or ((s.portEvent .h3).or
      ((s.portEvent .ul).or (s.portEvent .sv)))))))))

/-- The event that is due when no command waits: the end of a second, or an expiry of the running part. -/
def State.dueEvent (s : State) : Option Instr :=
  if 1000 ≤ s.time.subSecond then some .secondsCountAdvance
  else if s.runs then s.runningEvent
  else none

/-- One millisecond passes: on the retention clock always, and on every timer while the part runs (log entry 4). -/
def State.tick (s : State) : State :=
  let t : State := { s with time := { s.time with subSecond := s.time.subSecond + 1 } }
  if s.runs then t.elapse 1 else t

/-- What the part does by itself: the event that is due, or one more millisecond (log entry 1). -/
def idle (s : State) : StepOutcome :=
  match s.dueEvent with
  | some e => exec e s
  | none => .next s.tick

/-- One step: the command at the front of the queue, or the part's own time. -/
def step (s : State) : Host.Outcome State Fault Refusal :=
  match s.pending with
  | c :: rest => exec c { s with pending := rest }
  | [] => idle s

/-- The command that a word spells by the table's bits, put at the front of the queue; no row of the table gives bits, so the
state is unchanged. -/
def State.withFetchWord (s : State) (nbits w : Nat) : State :=
  match decodeTableWord nbits w with
  | some c => { s with pending := c :: s.pending }
  | none => s

end Sys2Proof.Machine
end

