-- ==== Sys2Proof/Safety.lean ====
section
/-! DEFINITION. What counts as a good state: the relations between fields that the spec says hold at all times. The statements
say that reset has them and that every step keeps them. -/

namespace Sys2Proof.Machine

/-- A transmit queue holds at most four messages (spec/09 R157). -/
def State.QueuesBounded (s : State) : Prop := ∀ p : Port, (s.ports.get p).queue.length ≤ Config.queueCapacity

/-- An error count lies in 0..255 (spec/09 R154). -/
def ErrorCounts.Bounded (e : ErrorCounts) : Prop :=
  e.framing ≤ 255 ∧ e.check ≤ 255 ∧ e.length ≤ 255 ∧ e.truncated ≤ 255 ∧ e.overrun ≤ 255

/-- The error counts of every port lie in their range (spec/09 R154). -/
def State.ErrorsBounded (s : State) : Prop := ∀ p : Port, (s.ports.get p).errors.Bounded

/-- The timers of a head run only in the state that owns them (spec/06 R102). -/
def HeadSeq.TimersPlaced (x : HeadSeq) : Prop :=
  (x.hello.isSome = true → x.state = .waking) ∧ (x.ready.isSome = true → x.state = .ticketed)
    ∧ (x.result.isSome = true → x.state = .reporting) ∧ (x.grace.isSome = true → x.state = .closing)
    ∧ (x.standby.isSome = true → x.state = .standby)

/-- Every head's timers run only in their states (spec/06 R102). -/
def State.TimersPlaced (s : State) : Prop := ∀ h : Head, (s.heads.get h).TimersPlaced

/-- A trigger with nothing under way. -/
def Trigger.Quiet (t : Trigger) : Prop := t.asserted = false ∧ t.bulb = none ∧ t.pulse = none

/-- Whenever a head's rail is off, its trigger output is inactive and its bulb timer stopped (spec/05 R93, R94). -/
def State.TriggersFollowRails (s : State) : Prop := ∀ h : Head, s.rail h = false → (s.triggers.get h).Quiet

/-- A head is in a state other than OFF and STANDBY only while it is a member of the frame in flight (spec/05 R84). -/
def State.AwakeOnlyInFrame (s : State) : Prop :=
  ∀ h : Head, (s.heads.get h).state ≠ .off → (s.heads.get h).state ≠ .standby → (s.member h).isSome = true

/-- The effective tier is the worse of the voltage tier and the budget floor (spec/07 R133). -/
def State.EffectiveIsWorse (s : State) : Prop := s.energy.effective = worse s.energy.voltageTier s.energy.floor.tier

/-- Sequences rise by one from record to record, the first being `n` (spec/08 R141). -/
def sequencesFrom : Nat → List JournalRecord → Prop
  | _, [] => True
  | n, r :: rest => r.sequence = n ∧ sequencesFrom (n + 1) rest

/-- The sequence that the next closed frame brings to the ring: that of the frame in flight, or the next to be given. -/
def State.nextClosed (s : State) : Nat :=
  match s.frame with
  | some f => f.sequence
  | none => s.journal.next

/-- The ring holds at most 256 records, their sequences consecutive and ending right below the sequence that will close next;
a frame in flight holds the sequence below the next-sequence counter (spec/08 R141, R143). -/
def State.JournalKept (s : State) : Prop :=
  s.journal.ring.length ≤ Config.ringCapacity
    ∧ s.journal.ring.length ≤ s.nextClosed
    ∧ sequencesFrom (s.nextClosed - s.journal.ring.length) s.journal.ring
    ∧ (∀ f : Frame, s.frame = some f → s.journal.next = f.sequence + 1)
    ∧ s.journal.next ≤ 4294967295

/-- The correction limit is at most 384 and every correction lies within it (spec/03 R59). -/
def State.CorrectionsBounded (s : State) : Prop :=
  s.settings.correctionLimit ≤ 384
    ∧ ∀ h : Head, -(s.settings.correctionLimit : Int) ≤ (s.ramps.get h).correction
        ∧ (s.ramps.get h).correction ≤ s.settings.correctionLimit

/-- The active bank is a plan that commit validation passes, with the active phase in it, and a pending swap finds such a plan
in the shadow bank (spec/01 R1, R17). -/
def State.PlanValid (s : State) : Prop :=
  commitFault s.plan.activeBank s.plan.index = none
    ∧ ∀ e : Nat, s.plan.swapPending = some e → commitFault s.plan.shadowBank e = none

/-- A pending swap waits for a frame in flight (spec/01 R17, R25). -/
def State.SwapWaitsForFrame (s : State) : Prop := s.plan.swapPending.isSome = true → s.frame.isSome = true

/-- The due time and the open time are present together or absent together, and absent while a frame is in flight (spec/04
R73). -/
def State.DueTogether (s : State) : Prop :=
  s.sched.due.isSome = s.sched.openTime.isSome ∧ (s.frame.isSome = true → s.sched.due = none)

/-! ## The terms of the statements -/

/-- The conditions under which a request of a kind is handed to its block (spec/09 R154; spec/11 R176): the part runs, the
queue has a place for the reply, and the port may send the kind. -/
def State.Accepts (s : State) (k : Kind) (p : Port) : Prop :=
  s.runs = true ∧ s.hasPlace p = true ∧ permitted k.group p = true

/-- A state with a message at the end of a port's queue and the port's assembly in HUNT. -/
def State.placed (s : State) (p : Port) (m : Message) : State :=
  s.modPort p (fun x => { x with rx := .hunt, interByte := none, queue := x.queue ++ [m] })

/-- A state with a reply placed: kind plus 80h, TAG, status, fields (spec/09 R158). -/
def State.answer (s : State) (p : Port) (k : Kind) (tag : Byte) (st : Status) (fields : List Byte) : State :=
  s.placed p ⟨(k.code + 0x80#8) :: tag :: st.code :: fields, none⟩

/-- One count of a port (spec/09 R154). -/
def ErrorCounts.count (e : ErrorCounts) : LineError → Nat
  | .framing => e.framing
  | .check => e.check
  | .length => e.length
  | .truncated => e.truncated
  | .overrun => e.overrun

/-- Characters received one after another on a port. -/
def feed (p : Port) : List Byte → State → StepOutcome
  | [], s => .next s
  | c :: rest, s =>
    match exec (.characterReceived p c) s with
    | .next t => feed p rest t
    | .fault r => .fault r
    | .refused r => .refused r

/-- The fields of a stored phase lie in the ranges of spec/01 R3, and the arm window is 0 under FREE. -/
def Phase.InRange (ph : Phase) : Prop :=
  (match ph.start with
    | .atTime t => t ≤ 86399
    | .onDarker t c => -2176 ≤ t ∧ t ≤ 3454 ∧ 1 ≤ c ∧ c ≤ 64
    | .onBrighter t c => -2176 ≤ t ∧ t ≤ 3454 ∧ 1 ≤ c ∧ c ≤ 64
    | .afterLimit => True)
  ∧ (2 ≤ ph.interval ∧ ph.interval ≤ 86400) ∧ (∀ n : Nat, ph.frameLimit = some n → 1 ≤ n ∧ n ≤ 65535)
  ∧ (∃ h : Head, ph.heads.get h = true) ∧ (ph.sync = .free → ph.armWindow = 0) ∧ ph.armWindow ≤ 30
  ∧ (-640 ≤ ph.compensation ∧ ph.compensation ≤ 640) ∧ (32 ≤ ph.targetLevel ∧ ph.targetLevel ≤ 992)
  ∧ ph.feedbackWeight ≤ 16 ∧ (1 ≤ ph.slewLimit ∧ ph.slewLimit ≤ 192)
  ∧ (1 ≤ ph.smoothingWeight ∧ ph.smoothingWeight ≤ 16) ∧ ph.deadband ≤ 32

/-- A setting whose write does nothing at once beside being stored (spec/11 section 11.3). -/
def Setting.Quiet : Setting → Prop
  | .key | .calibration | .hysteresis | .darkFloor | .settle | .edge | .shutterBase => True
  | .economyThreshold | .reserveThreshold | .haltThreshold | .tierHysteresis | .reserveMask => True
  | .push _ | .helloTimeout _ | .readyTimeout _ | .resultTimeout _ | .standbyThreshold _ => True
  | .controls _ | .current _ | .triggerMode _ | .pulseWidth _ => True
  | .meterPeriod | .correctionLimit | .allowance | .fillLevel | .lineSpeed _ | .errorThreshold _ => False
  | .lead _ | .missLimit _ | .cycleReserve _ | .polarity _ => False

/-- Whether an optional mark is below a sequence, a mark of none being below every one. -/
def markBelow : Option Nat → Nat → Prop
  | none, _ => True
  | some m, q => m < q

/-- The entry outcome of a head in the frame in flight. -/
def State.outcomeOf (s : State) (h : Head) : Option EntryOutcome := (s.member h).bind (·.outcome)

/-- A member of the frame in flight other than `h` holds the frame open. -/
def State.HeldOpenBeside (s : State) (h : Head) : Prop := ∃ g : Head, g ≠ h ∧ s.memberFinished g = false

/-- The frame closes as soon as `h` is decided and OFF or STANDBY: every other member is (spec/05 R98). -/
def State.ClosesWith (s : State) (h : Head) : Prop := ∀ g : Head, g ≠ h → s.memberFinished g = true

/-- The measurement of a close leaves the voltage tier out of HALT (spec/05 R99; spec/07 R128). -/
def State.CloseStaysOutOfHalt (s : State) : Prop :=
  judgeVoltage s.settings s.energy.voltageTier (min s.bsense.level 16383) ≠ .halt

/-- The outcome that the table of spec/05 R97 gives a frame that closes while the part runs. -/
def Frame.Concludes (f : Frame) (o : FrameOutcome) : Prop :=
  (f.sync = .abandoned → o = .abandonedSync)
  ∧ (f.sync ≠ .abandoned → f.haltAborted = true ∨ f.sync = .aborted → o = .aborted)
  ∧ (f.sync ≠ .abandoned → f.sync ≠ .aborted → f.haltAborted = false →
      ((∀ (h : Head) (m : Member), f.members.get h = some m → m.outcome = some .done) → o = .ok)
      ∧ ((∃ (h : Head) (m : Member), f.members.get h = some m ∧ m.outcome = some .done) →
          (∃ (h : Head) (m : Member), f.members.get h = some m ∧ m.outcome ≠ some .done) → o = .partially)
      ∧ ((∃ h : Head, (f.members.get h).isSome = true) →
          (∀ (h : Head) (m : Member), f.members.get h = some m → m.outcome ≠ some .done) → o = .failed))

/-- A frame that closes with an outcome counts against the active phase (spec/01 R22). -/
def Plan.Counts (pl : Plan) (f : Frame) (o : FrameOutcome) : Prop :=
  (o = .ok ∨ o = .partially) ∧ f.forced = false ∧ f.bank = pl.active ∧ f.entry = pl.entry

/-- What the close of the frame `f` leaves of a HELD part that was `s` (spec/05 R97 to R99; spec/01 R17, R22; spec/04 R78;
spec/08 R142, R144). -/
def State.ClosedHeld (s t : State) (f : Frame) : Prop :=
  ∃ r : JournalRecord, f.Concludes r.outcome
    ∧ t.frame = none ∧ t.armTimer = none
    ∧ t.journal.ring = (if 256 ≤ s.journal.ring.length then s.journal.ring.drop 1 else s.journal.ring) ++ [r]
    ∧ r.sequence = f.sequence ∧ r.skipped = f.skipped
    ∧ (∀ (h : Head) (m : Member), f.members.get h = some m →
        ∃ e : HeadEntry, r.heads.get h = some e ∧ m.outcome = some e.outcome)
    ∧ t.energy.reading = min s.bsense.level 16383 ∧ t.energy.readingTime = s.time.count
    ∧ r.battery = t.energy.reading ∧ r.tierAtClose = t.energy.effective
    ∧ (f.forced = true ∨ f.resumedInFlight = true → t.sched.anchor = s.sched.anchor)
    ∧ (f.forced = false → f.resumedInFlight = false → t.sched.anchor = some ⟨f.due, .frame⟩ ∧ t.sched.lastDue = none)
    ∧ t.sched.run = .held ∧ t.sched.due = none ∧ t.sched.openTime = none ∧ t.sched.skipped = s.sched.skipped
    ∧ (∀ e : Nat, s.plan.swapPending = some e → t.plan.active = s.plan.active.other ∧ t.plan.index = e
        ∧ t.plan.entry = (s.plan.entry + 1) % 4294967296 ∧ t.plan.swapPending = none)
    ∧ (s.plan.swapPending = none → s.plan.Counts f r.outcome →
        t.plan = { s.plan with remaining := s.plan.remaining.map (· - 1) })
    ∧ (s.plan.swapPending = none → ¬s.plan.Counts f r.outcome → t.plan = s.plan)

/-- The count that the next advance brings (spec/04 R67). -/
def State.nextSecond (s : State) : Nat := if s.time.count + 1 = 4294967296 then 0 else s.time.count + 1

/-- The next advance is a day rollover (spec/04 R70). -/
def State.midnight (s : State) : Bool := s.time.valid && decide (s.nextSecond % 86400 = 0)

/-- The scheduled times, D and the wake times not yet reached, moved back by 4,294,967,296 (spec/04 R67). -/
def State.wrapped (s : State) : State :=
  let move := fun m : Member => if m.reached then m else { m with wakeTime := m.wakeTime - 4294967296 }
  { s with
    sched := { s.sched with
      anchor := s.sched.anchor.map (fun a => { a with time := a.time - 4294967296 })
      due := s.sched.due.map (· - 4294967296)
      openTime := s.sched.openTime.map (· - 4294967296)
      lastDue := s.sched.lastDue.map (· - 4294967296) }
    frame := s.frame.map (fun f => { f with
      due := f.due - 4294967296
      members := ⟨f.members.h0.map move, f.members.h1.map move, f.members.h2.map move, f.members.h3.map move⟩ }) }

/-- A head as a readmission leaves it (spec/06 R123). -/
def HeadSeq.admitted (x : HeadSeq) : HeadSeq := { x with miss := 0, exclusion := none, storageMark := false }

/-- A day rollover of a running part, before the due time follows a change of the tier: spend 0, budget floor NONE, the tier
that of the voltage, with TIER_CHANGED where it differs, every head admitted (spec/07 R132; spec/06 R123). -/
def State.rolledOver (s : State) : State :=
  { s with
    energy := { s.energy with spend := 0, floor := .none, effective := s.energy.voltageTier }
    heads := ⟨s.heads.h0.admitted, s.heads.h1.admitted, s.heads.h2.admitted, s.heads.h3.admitted⟩
    stations := if s.energy.voltageTier = s.energy.effective then s.stations
      else ⟨{ s.stations.ul with flags := s.stations.ul.flags ||| 16#10 },
        { s.stations.sv with flags := s.stations.sv.flags ||| 16#10 }⟩ }

/-- The running part right after its count has advanced, the second passed on every timer, at the wrap with its times moved,
and at midnight rolled over, before a block acts on the advance (spec/04 R67, R70; log entries 4, 6 and 41). -/
def State.advanced (s : State) : State :=
  let e := s.elapse (1000 - s.time.subSecond)
  let w := if s.time.count + 1 = 4294967296 then e.wrapped else e
  let t : State := { w with time := { e.time with count := s.nextSecond, subSecond := 0 } }
  if s.midnight then t.rolledOver else t

/-- The part runs, and a day rollover at the next advance changes no tier, or changes it while there is no due time to compute:
a frame is in flight, or the part is HELD (spec/04 R77; spec/07 R132). -/
def State.AdvanceRests (s : State) : Prop :=
  s.runs = true ∧ (s.midnight = true → s.energy.voltageTier = s.energy.effective
    ∨ (s.energy.voltageTier ≠ .halt ∧ (s.frame.isSome = true
      ∨ (s.sched.run = .held ∧ s.sched.due = none ∧ s.sched.openTime = none))))

/-- The next advance meets no AT_TIME successor (spec/01 R19, R20). -/
def State.NoEntryAhead (s : State) : Prop :=
  s.sched.run = .held ∨ s.time.valid = false ∨ s.plan.successor.start ≠ .atTime (s.nextSecond % 86400)

/-- With no frame in flight an event that leaves `v` ends in `t`: `v` itself where the effective tier is the one of `s` before
the event, and otherwise, short of HALT, with the due time computed from the held anchor (spec/04 R77). An open time already
reached is left out. -/
def State.SettlesTo (s v t : State) : Prop :=
  (v.energy.effective = s.energy.effective → t = v)
  ∧ (v.energy.effective ≠ s.energy.effective → v.energy.effective ≠ .halt → v.computeDue.openReached = false →
      t = v.computeDue)

/-- A change of the tier short of HALT has nothing to act on at once: a frame is in flight and stays open, or the part is HELD
with no frame (spec/04 R77). -/
def State.TierChangeRests (s : State) : Prop :=
  s.energy.voltageTier ≠ .halt
    ∧ ((s.frame = none ∧ s.sched.run = .held) ∨ (s.frame.isSome = true ∧ s.frameFinished = false))

/-- A frame in which nothing falls at the time `n`: D is not reached then, or was reached before, and no wake time but that
of a head `h` is (spec/05 R88, R89; spec/06 R104). -/
def Frame.QuietBut (f : Frame) (n : Int) (h : Head) : Prop :=
  (n < f.due ∨ (f.sync ≠ .beforeD ∧ f.sync ≠ .waiting))
    ∧ ∀ (k : Head) (m : Member), k ≠ h → f.members.get k = some m → m.reached = true ∨ n < m.wakeTime

/-- A frame in which nothing falls at the time `n`. -/
def Frame.QuietAt (f : Frame) (n : Int) : Prop := ∀ h : Head, f.QuietBut n h

end Sys2Proof.Machine
end

