-- ==== Sys2Proof/WellFormed.lean ====
section
/-! DEFINITION. Which commands can reach the block: the operands that the types of `Instr` leave too wide. -/

namespace Sys2Proof

/-- A LADDER_PUT carries eight slots, and an UNKNOWN_KIND a code that is no request kind (spec/09 R154, R166). -/
def Instr.wellFormed : Instr → Bool
  | .ladderPut _ _ _ slots => slots.length == 8
  | .unknownKind _ _ kind => (kindOfCode kind).isNone
  | .hello _ _ | .ready _ _ _ | .result _ _ _ _ _ _ | .statusRead _ _ | .eventsRead _ _ | .eventsEnable _ _ _ => true
  | .portStatus _ _ _ | .portReset _ _ _ | .journalRead _ _ _ _ | .journalAck _ _ _ | .clockSet _ _ _ | .clockRead _ _ => true
  | .configWrite _ _ _ _ _ | .configRead _ _ _ _ | .planClear _ _ | .phaseAppend _ _ _ | .phaseReplace _ _ _ _ => true
  | .commit _ _ _ | .planRead _ _ _ _ | .planCopy _ _ | .seqHold _ _ | .seqResume _ _ => true
  | .forceFrame _ _ | .headReadmit _ _ _ | .rampRead _ _ _ | .rampReseed _ _ _ | .bulletinWrite _ _ _ _ => true
  | .bulletinRead _ _ _ | .flagSet _ _ _ | .flagClear _ _ _ | .flagRead _ _ => true
  | .checkError _ | .lengthError _ | .overrun _ | .framingError _ | .interByteTimerExpiry _ | .messageSent _ => true
  | .pulseEdge _ | .settleElapsed | .readingCompletion | .periodTimerExpiry | .secondsCountAdvance => true
  | .helloTimerExpiry _ | .readyTimerExpiry _ | .resultTimerExpiry _ | .graceTimerExpiry _ | .standbyTimerExpiry _ => true
  | .armTimerExpiry | .bulbTimerExpiry _ | .pulseWidthElapsed _ | .measurementTimerExpiry _ => true
  | .mainSupplyLoss | .nrstAssert | .coldStart _ | .warmStart _ | .characterReceived _ _ => true

end Sys2Proof
end

