-- ==== Sys2Proof/Certificates/Slice0/Obligations.lean ====
section
/-! DEFINITION. The statements for the provers. Each is about every state that meets its hypotheses, reachable or not. -/

open Sys2Proof Sys2Proof.Machine

/-! ## The queue of commands and the passing of time -/

/-- The model's own choice (log entry 1): commands wait in a queue, which the spec does not have, and a step runs the command at
the front of it, whole, on the state with the rest of the queue. That a step is whole and indivisible is what the spec says. -/
def Obligations.StepTakesFrontCommand : Prop :=
  ∀ (c : Instr) (s : State) (rest : List Instr),
    step { s with pending := c :: rest } = exec c { s with pending := rest }

/-- With no command waiting, a step takes the event that is due, and with none due one millisecond passes, on the retention
clock always and on the elapsed-time timers while the part runs. `n` milliseconds take `n` off every timer that runs (1000
times `n` microseconds off a bulb timer), down to 0; they leave stopped timers stopped, add `n` to each RUNNING on-time
accumulator, up to 4,294,967,295, and to the time since the last CLOCK_SET or start, and touch nothing else. The event due is
the end of the second after 1000 ms; else in a running part the expiry of the first timer at 0, in the order settle, gate,
period, measurement, arm window, then of each head hello, ready, result, bulb, pulse, grace, standby, then the inter-byte timer
of each port; else none. The model's own choices: that idle steps take events and let time pass (log entry 1), whole
milliseconds (log entry 4), and the order of events due together (log entry 5). -/
def Obligations.IdlePartLetsTimePass : Prop :=
  (∀ s : State, s.pending = [] →
    (∀ e : Instr, s.dueEvent = some e → step s = exec e s)
    ∧ (s.dueEvent = none → s.runs = true →
        step s = .next (({ s with time := { s.time with subSecond := s.time.subSecond + 1 } } : State).elapse 1))
    ∧ (s.dueEvent = none → s.runs = false →
        step s = .next { s with time := { s.time with subSecond := s.time.subSecond + 1 } }))
  ∧ (∀ (s t : State) (n : Nat), t = s.elapse n →
    t = { s with
      time := { s.time with sinceSet := s.time.sinceSet + n }
      meter := { s.meter with
        settleTimer := s.meter.settleTimer.map (· - n)
        gateTimer := s.meter.gateTimer.map (· - n)
        periodTimer := s.meter.periodTimer.map (· - n) }
      armTimer := s.armTimer.map (· - n)
      triggers := t.triggers
      heads := t.heads
      energy := { s.energy with measureTimer := s.energy.measureTimer.map (· - n), onTime := t.energy.onTime }
      ports := t.ports }
    ∧ (∀ h : Head,
        t.triggers.get h = { s.triggers.get h with
          bulb := (s.triggers.get h).bulb.map (· - 1000 * n), pulse := (s.triggers.get h).pulse.map (· - n) }
        ∧ t.heads.get h = { s.heads.get h with
          hello := (s.heads.get h).hello.map (· - n), ready := (s.heads.get h).ready.map (· - n)
          result := (s.heads.get h).result.map (· - n), grace := (s.heads.get h).grace.map (· - n)
          standby := (s.heads.get h).standby.map (· - n) }
        ∧ t.energy.onTime.get h = if (s.energy.onTime.get h).running = true then
            ⟨min ((s.energy.onTime.get h).ms + n) 4294967295, true⟩ else s.energy.onTime.get h)
    ∧ ∀ q : Port, t.ports.get q = { s.ports.get q with interByte := (s.ports.get q).interByte.map (· - n) })
  ∧ (∀ s : State, (1000 ≤ s.time.subSecond → s.dueEvent = some .secondsCountAdvance)
    ∧ (s.time.subSecond < 1000 → s.runs = false → s.dueEvent = none)
    ∧ (s.time.subSecond < 1000 → s.runs = true → s.dueEvent =
        (([(s.meter.settleTimer, Instr.settleElapsed), (s.meter.gateTimer, .readingCompletion),
            (s.meter.periodTimer, .periodTimerExpiry), (s.energy.measureTimer, .measurementTimerExpiry []),
            (s.armTimer, .armTimerExpiry)]
          ++ [Head.h0, .h1, .h2, .h3].flatMap (fun h =>
            [((s.heads.get h).hello, Instr.helloTimerExpiry h), ((s.heads.get h).ready, .readyTimerExpiry h),
              ((s.heads.get h).result, .resultTimerExpiry h), ((s.triggers.get h).bulb, .bulbTimerExpiry h),
              ((s.triggers.get h).pulse, .pulseWidthElapsed h), ((s.heads.get h).grace, .graceTimerExpiry h),
              ((s.heads.get h).standby, .standbyTimerExpiry h)])
          ++ [Port.h0, .h1, .h2, .h3, .ul, .sv].map (fun q =>
            ((s.ports.get q).interByte, Instr.interByteTimerExpiry q))).find?
          (fun x => x.1 == some 0)).map (fun x => x.2)))

/-- Every command in every state leads to a next state, and none touches the commands that wait. That commands wait in a queue,
which the spec does not have, is the model's own choice (log entry 1). -/
def Obligations.EveryCommandGoesOn : Prop :=
  ∀ (i : Instr) (s : State), ∃ t : State, exec i s = .next t ∧ t.pending = s.pending

/-! ## Messages and the line -/

/-- Decoding the body of a request gives the request back, for every request kind and every UNKNOWN_KIND, with every
operand. -/
def Obligations.MessageSpellsItsCommand : Prop :=
  ∀ (i : Instr) (p : Port) (body : List Byte),
    i.wellFormed = true → requestPort i = some p → bodyOfCommand i = some body → commandOfBody p body = i

/-- The characters of a message, received one by one in HUNT, run the command its body spells when the sum of LEN, body and
CHK is 0, and count a CHECK error otherwise. That the command is named by its request and that the assembly then returns to
HUNT within it is how the model reads the table (log entry 29). -/
def Obligations.ReceivedFrameRunsItsCommand : Prop :=
  ∀ (s : State) (p : Port) (body : List Byte) (chk : Byte),
    s.runs = true → (s.ports.get p).rx = .hunt → 2 ≤ body.length → body.length ≤ 200 →
    feed p (0xC5#8 :: BitVec.ofNat 8 body.length :: (body ++ [chk])) s =
      if body.foldl (fun a b => a + b) 0#8 + BitVec.ofNat 8 body.length + chk = 0#8 then
        exec (commandOfBody p body) (s.modPort p (fun x => { x with rx := .awaitChk body, interByte := some 100 }))
      else exec (.checkError p) (s.modPort p (fun x => { x with rx := .awaitChk body, interByte := some 100 }))

/-- One character moves the receive assembly and restarts the inter-byte timer of 100 ms; a character that starts nothing is
dropped. -/
def Obligations.CharacterMovesTheAssembly : Prop :=
  ∀ (s : State) (p : Port) (c : Byte), s.runs = true →
    ((s.ports.get p).rx = .hunt → c = 0xC5#8 →
      exec (.characterReceived p c) s = .next (s.modPort p (fun x => { x with rx := .awaitLen, interByte := some 100 })))
    ∧ ((s.ports.get p).rx = .hunt → c ≠ 0xC5#8 → exec (.characterReceived p c) s = .next s)
    ∧ ((s.ports.get p).rx = .awaitLen → 2 ≤ c.toNat → c.toNat ≤ 200 →
      exec (.characterReceived p c) s =
        .next (s.modPort p (fun x => { x with rx := .body c.toNat [], interByte := some 100 })))
    ∧ ((s.ports.get p).rx = .awaitLen → c.toNat < 2 ∨ 200 < c.toNat →
      exec (.characterReceived p c) s = exec (.lengthError p) s)
    ∧ (∀ (len : Nat) (got : List Byte), (s.ports.get p).rx = .body len got → got.length + 1 < len →
      exec (.characterReceived p c) s =
        .next (s.modPort p (fun x => { x with rx := .body len (got ++ [c]), interByte := some 100 })))
    ∧ (∀ (len : Nat) (got : List Byte), (s.ports.get p).rx = .body len got → got.length + 1 = len →
      exec (.characterReceived p c) s =
        .next (s.modPort p (fun x => { x with rx := .awaitChk (got ++ [c]), interByte := some 100 })))

/-- The five receive errors: the count of that kind rises by one and saturates at 255, the assembly returns to HUNT, and
LINE_ERRORS is raised at both stations when the total reaches the threshold while the marker is CLEAR. Nothing else changes.
That OVERRUN is taken only with a full queue is the model's reading (log entry 10). -/
def Obligations.LineErrorsAreCounted : Prop :=
  ∀ (s : State) (p : Port) (i : Instr) (k : LineError), s.runs = true →
    (i = .checkError p ∧ k = .check) ∨ (i = .lengthError p ∧ k = .length) ∨ (i = .framingError p ∧ k = .framing)
      ∨ (i = .interByteTimerExpiry p ∧ k = .truncated ∧ (s.ports.get p).interByte.isSome = true)
      ∨ (i = .overrun p ∧ k = .overrun ∧ s.hasPlace p = false) →
    ∃ t : State, exec i s = .next t
      ∧ t = { s with ports := t.ports, stations := t.stations }
      ∧ (∀ q : Port, q ≠ p → t.ports.get q = s.ports.get q)
      ∧ (t.ports.get p).errors.count k = (if (s.ports.get p).errors.count k < 255 then (s.ports.get p).errors.count k + 1
          else min ((s.ports.get p).errors.count k) 255)
      ∧ (∀ j : LineError, j ≠ k → (t.ports.get p).errors.count j = (s.ports.get p).errors.count j)
      ∧ (t.ports.get p).rx = .hunt ∧ (t.ports.get p).interByte = none
      ∧ (t.ports.get p).queue = (s.ports.get p).queue ∧ (t.ports.get p).speed = (s.ports.get p).speed
      ∧ ((s.ports.get p).errors.count k < 255 → (s.ports.get p).thresholdRaised = false →
          (s.settings.port.get p).errorThreshold ≤ (t.ports.get p).errors.total →
          (t.ports.get p).thresholdRaised = true
            ∧ ∀ st : Station, (t.stations.get st).flags = (s.stations.get st).flags ||| 64#10
                ∧ (t.stations.get st).enables = (s.stations.get st).enables)
      ∧ ((s.ports.get p).errors.count k = 255 ∨ (s.ports.get p).thresholdRaised = true
            ∨ (t.ports.get p).errors.total < (s.settings.port.get p).errorThreshold →
          (t.ports.get p).thresholdRaised = (s.ports.get p).thresholdRaised ∧ t.stations = s.stations)

/-- A request, of whatever kind, that completes on a port whose queue holds four messages is an OVERRUN and nothing else. A
request of a kind that its port may not send is answered NOT_PERMITTED with no fields, and has no other effect; a message of
an unknown kind is answered FFh, TAG, UNKNOWN_KIND and the kind. -/
def Obligations.TurnedAwayMessagesChangeNothing : Prop :=
  (∀ (i : Instr) (s : State) (p : Port), i.wellFormed = true → s.runs = true → requestPort i = some p →
     s.hasPlace p = false → exec i s = exec (.overrun p) s)
  ∧ ((∀ (i : Instr) (s : State) (p : Port) (k : Kind) (c tag : Byte) (fields : List Byte),
     i.wellFormed = true → s.runs = true → requestPort i = some p → s.hasPlace p = true →
     bodyOfCommand i = some (c :: tag :: fields) → kindOfCode c = some k → permitted k.group p = false →
     exec i s = .next (s.answer p k tag .notPermitted []))
   ∧ (∀ (s : State) (p : Port) (tag kind : Byte), s.runs = true → s.hasPlace p = true → kindOfCode kind = none →
     exec (.unknownKind p tag kind) s = .next (s.placed p ⟨[0xFF#8, tag, 0x18#8, kind], none⟩)))

/-- A sent message leaves its queue, and the effect that waited for it takes place. A line speed becomes the one in use. A
reset of a station port clears queue, assembly, error counts, event flags and the shared flags that the port holds, and the
line speeds that waited in the cleared queue then change too, oldest first. A reset of a head port does the same with no
events while the head's rail is off. While the rail is on and the head has no undecided part, the rail goes off with the
on-time spent, and a storage mark is applied out of CLOSING; with no frame in flight a tier that the spend changes has the
due time computed, held or running. With an undecided part the member is lost, as PortResetLosesTheMember says, and the frame
stays open while another member holds it open. A reset after which every member is decided and OFF or STANDBY closes the
frame, with RESET for a member that was undecided and, before the fire instant of a LOCKED frame, ABORTED for the others.
That the speed in use is judged when the reply leaves is the model's reading (log entry 27). The order of the effects that
one clearing frees is its choice (log entry 38), and so it is that a member which the arm window expiry has decided and which
is still CLOSING keeps that outcome, where the last sentence of R91 would have RESET (log entry 43). -/
def Obligations.SentMessageFreesItsPlace : Prop :=
  ∀ (s t : State) (p : Port) (m : Message) (rest : List Message), s.runs = true →
    (s.ports.get p).queue = m :: rest → s.frame = none ∨ s.frameFinished = false →
    t = s.modPort p (fun x => { x with queue := rest }) →
    (m.effect = none → exec (.messageSent p) s = .next t)
    ∧ (∀ (q : Port) (v : LineSpeed), m.effect = some (.lineSpeed q v) →
        exec (.messageSent p) s = .next (if (t.ports.get q).speed = v then t
          else t.modPort q (fun x => { x with rx := .hunt, interByte := none, speed := v })))
    ∧ (∀ (q : Port) (st : Station) (waiting : List (Port × LineSpeed)), m.effect = some (.portReset q) →
        portStation? q = some st → (t.ports.get q).queue.length ≤ 4 →
        (t.ports.get q).queue.filterMap (·.effect) = waiting.map (fun w => .lineSpeed w.1 w.2) →
        ∃ u : State, exec (.messageSent p) s = .next (waiting.foldl (fun y w => if (y.ports.get w.1).speed = w.2 then y
            else y.modPort w.1 (fun x => { x with rx := .hunt, interByte := none, speed := w.2 })) u)
          ∧ u = { t with ports := u.ports, stations := u.stations, flags := u.flags }
          ∧ u.ports = t.ports.set q { t.ports.get q with
              queue := [], rx := .hunt, interByte := none, errors := ⟨0, 0, 0, 0, 0⟩, thresholdRaised := false }
          ∧ u.stations = t.stations.set st { t.stations.get st with flags := 0#10 }
          ∧ ∀ i : Idx, u.flags.get i = if t.flags.get i = some q then none else t.flags.get i)
    ∧ (∀ h : Head, m.effect = some (.portReset (headPort h)) →
        (∀ n ∈ (t.ports.get (headPort h)).queue, n.effect = none) →
        (s.undecided h = false → (s.heads.get h).state = .off → ∃ u : State, exec (.messageSent p) s = .next u
          ∧ u = { t with ports := u.ports, flags := u.flags }
          ∧ u.ports = t.ports.set (headPort h) { t.ports.get (headPort h) with
              queue := [], rx := .hunt, interByte := none, errors := ⟨0, 0, 0, 0, 0⟩, thresholdRaised := false }
          ∧ ∀ i : Idx, u.flags.get i = if t.flags.get i = some (headPort h) then none else t.flags.get i)
        ∧ (s.undecided h = false → (s.heads.get h).state ≠ .off → s.energy.voltageTier ≠ .halt →
            (s.frame = none ∧ s.sched.run = .held) ∨ s.HeldOpenBeside h →
            ∃ u : State, exec (.messageSent p) s = .next u
              ∧ (u.heads.get h).state = .off ∧ (u.triggers.get h).Quiet ∧ (u.ports.get (headPort h)).queue = []
              ∧ (u.energy.onTime.get h).ms = 0 ∧ (u.energy.onTime.get h).running = false
              ∧ u.energy.spend =
                  min (s.energy.spend + (s.energy.onTime.get h).ms * (s.settings.head.get h).current / 1000) 4294967295
              ∧ (u.heads.get h).exclusion = (if (s.heads.get h).state = .closing ∧ (s.heads.get h).storageMark = true
                    ∧ (s.heads.get h).exclusion = none then some .storage else (s.heads.get h).exclusion)
              ∧ (u.heads.get h).miss = (s.heads.get h).miss
              ∧ (∀ g : Head, g ≠ h → u.heads.get g = s.heads.get g ∧ u.triggers.get g = s.triggers.get g)
              ∧ u.frame = s.frame ∧ u.ramps = s.ramps ∧ u.plan = s.plan ∧ u.journal = s.journal)
        ∧ (s.frame = none → (s.heads.get h).state ≠ .off → s.energy.voltageTier ≠ .halt →
            ∃ v u : State, exec (.messageSent p) s = .next u ∧ s.SettlesTo v u
              ∧ v = { t with
                heads := v.heads, triggers := v.triggers, ports := v.ports, energy := v.energy, stations := v.stations
                flags := v.flags }
              ∧ (v.heads.get h).state = .off ∧ (v.triggers.get h).Quiet ∧ (v.ports.get (headPort h)).queue = []
              ∧ (v.energy.onTime.get h).ms = 0 ∧ (v.energy.onTime.get h).running = false
              ∧ v.energy.spend =
                  min (s.energy.spend + (s.energy.onTime.get h).ms * (s.settings.head.get h).current / 1000) 4294967295
              ∧ v.energy.effective = worse s.energy.voltageTier (if 0 < s.settings.allowance
                  ∧ s.settings.allowance ≤ v.energy.spend then .economy else .normal)
              ∧ (∀ g : Head, g ≠ h → v.heads.get g = s.heads.get g ∧ v.triggers.get g = s.triggers.get g))
        ∧ (∀ g : Head, s.undecided h = true → s.energy.voltageTier ≠ .halt → g ≠ h → (s.member g).isSome = true →
            (s.heads.get g).state ≠ .off → (s.heads.get g).state ≠ .standby →
            exec (.messageSent p) s = .next (t.takePortReset (headPort h)))
        ∧ (∀ f : Frame, s.undecided h = true → s.energy.voltageTier ≠ .halt → s.frame = some f → f.sync ≠ .waiting →
            f.sync ≠ .window → s.HeldOpenBeside h → exec (.messageSent p) s = .next (t.takePortReset (headPort h)))
        ∧ (∀ (f : Frame) (m : Member), s.energy.voltageTier ≠ .halt → s.frame = some f → f.members.get h = some m →
            m.outcome = none →
            (∀ (g : Head) (n : Member), g ≠ h → f.members.get g = some n →
              ((s.heads.get g).state = .off ∨ (s.heads.get g).state = .standby)
              ∧ (n.outcome.isSome = true ∨ f.sync = .waiting ∨ f.sync = .window)) →
            ∃ (v : State) (k : Frame), exec (.messageSent p) s = .next (v.closeFrame k) ∧ v.frame = some k
              ∧ k = { f with
                members := k.members, sync := if f.sync = .waiting ∨ f.sync = .window then .aborted else f.sync }
              ∧ k.members.get h = some { m with outcome := some .reset }
              ∧ (∀ g : Head, g ≠ h → k.members.get g = (f.members.get g).map (fun n =>
                  if n.outcome = none then { n with outcome := some .aborted } else n))
              ∧ v.sched = s.sched ∧ v.plan = s.plan ∧ v.journal = s.journal ∧ v.settings = s.settings ∧ v.time = s.time
              ∧ v.bsense = s.bsense ∧ v.ramps = s.ramps ∧ v.meter = s.meter
              ∧ (v.heads.get h).state = .off ∧ (v.triggers.get h).Quiet ∧ (v.heads.get h).miss = (s.heads.get h).miss
              ∧ (v.heads.get h).exclusion = (s.heads.get h).exclusion
              ∧ (v.ports.get (headPort h)).queue = []
              ∧ ((s.heads.get h).state ≠ .off → (v.energy.onTime.get h).ms = 0)
              ∧ (∀ g : Head, g ≠ h → v.heads.get g = s.heads.get g))
        ∧ (∀ f : Frame, s.undecided h = false → (s.heads.get h).state ≠ .off → s.energy.voltageTier ≠ .halt →
            s.frame = some f → s.ClosesWith h →
            ∃ v : State, exec (.messageSent p) s = .next (v.closeFrame f) ∧ v.frame = some f
              ∧ v.sched = s.sched ∧ v.plan = s.plan ∧ v.journal = s.journal ∧ v.settings = s.settings ∧ v.time = s.time
              ∧ v.bsense = s.bsense ∧ v.ramps = s.ramps ∧ v.meter = s.meter
              ∧ (v.heads.get h).state = .off ∧ (v.triggers.get h).Quiet ∧ (v.heads.get h).miss = (s.heads.get h).miss
              ∧ (v.heads.get h).exclusion = (if (s.heads.get h).state = .closing ∧ (s.heads.get h).storageMark = true
                    ∧ (s.heads.get h).exclusion = none then some .storage else (s.heads.get h).exclusion)
              ∧ (v.ports.get (headPort h)).queue = [] ∧ (v.energy.onTime.get h).ms = 0
              ∧ (∀ g : Head, g ≠ h → v.heads.get g = s.heads.get g)))

/-- A station's reset of the port of a member whose part is undecided: RESET, rail off, trigger inactive. Before the fire
instant of a LOCKED frame every other undecided member is ABORTED; otherwise the others are not affected. -/
def Obligations.PortResetLosesTheMember : Prop :=
  ∀ (s : State) (f : Frame) (h : Head), s.frame = some f → s.undecided h = true →
    ∃ g : Frame, (s.takePortReset (headPort h)).frame = some g
      ∧ (s.takePortReset (headPort h)).outcomeOf h = some .reset
      ∧ ((s.takePortReset (headPort h)).heads.get h).state = .off
      ∧ ((s.takePortReset (headPort h)).triggers.get h).Quiet
      ∧ (f.sync = .waiting ∨ f.sync = .window →
          g.sync = .aborted ∧ (s.takePortReset (headPort h)).armTimer = none
          ∧ ∀ k : Head, k ≠ h → s.undecided k = true →
              (s.takePortReset (headPort h)).outcomeOf k = some .aborted
              ∧ ((s.takePortReset (headPort h)).heads.get k).state =
                  (if (s.heads.get k).state = .off ∨ (s.heads.get k).state = .standby then (s.heads.get k).state
                   else .closing))
      ∧ (f.sync ≠ .waiting → f.sync ≠ .window →
          g.sync = f.sync ∧ ∀ k : Head, k ≠ h → g.members.get k = f.members.get k
            ∧ (s.takePortReset (headPort h)).heads.get k = s.heads.get k
            ∧ (s.takePortReset (headPort h)).triggers.get k = s.triggers.get k)

/-- EVENTS_READ reports flags and enables and clears the flags, so that ATTN is released; EVENTS_ENABLE replaces the
enables, and ATTN follows. -/
def Obligations.StationEventsReadAndEnabled : Prop :=
  ∀ (s : State) (st : Station) (tag : Byte), s.runs = true → s.hasPlace (stationPort st) = true →
    (∃ t : State, t = { s with stations := s.stations.set st { s.stations.get st with flags := 0#10 } }
      ∧ t.attn st = false
      ∧ exec (.eventsRead (stationPort st) tag) s = .next (t.answer (stationPort st) .eventsRead tag .ok
          (leBytes 2 (s.stations.get st).flags.toNat ++ leBytes 2 (s.stations.get st).enables.toNat)))
    ∧ ∀ field : BitVec 16, ∃ t : State,
        t = { s with stations := s.stations.set st { s.stations.get st with enables := field.setWidth 10 } }
        ∧ (t.attn st = true ↔ ∃ e : Event, hasEvent (s.stations.get st).flags e = true ∧ field.getLsbD e.position = true)
        ∧ exec (.eventsEnable (stationPort st) tag field) s = .next (t.answer (stationPort st) .eventsEnable tag .ok
            (leBytes 2 (field.setWidth 10).toNat ++ leBytes 2 (s.stations.get st).flags.toNat))

/-- PORT_STATUS reports a port and sets its counts to 0 and its marker CLEAR; PORT_RESET is answered and waits for that
reply; an index above 5 is BAD_INDEX for both. That the reported queue length leaves out the reply itself is the model's
reading (log entry 16). -/
def Obligations.PortRequestsAreAnswered : Prop :=
  ∀ (s : State) (p : Port) (tag index : Byte), s.Accepts .portStatus p →
    (∀ q : Port, index.toNat = portCode q →
      exec (.portStatus p tag index) s = .next ((s.modPort q (fun x =>
          { x with errors := ⟨0, 0, 0, 0, 0⟩, thresholdRaised := false })).answer p .portStatus tag .ok
        ([index] ++ leBytes 1 (s.ports.get q).errors.framing ++ leBytes 1 (s.ports.get q).errors.check
          ++ leBytes 1 (s.ports.get q).errors.length ++ leBytes 1 (s.ports.get q).errors.truncated
          ++ leBytes 1 (s.ports.get q).errors.overrun ++ leBytes 2 (s.ports.get q).errors.total
          ++ leBytes 1 (s.settings.port.get q).errorThreshold ++ [if (s.ports.get q).thresholdRaised then 1#8 else 0#8]
          ++ leBytes 1 (s.ports.get q).speed.code ++ leBytes 1 (s.settings.port.get q).lineSpeed.code
          ++ leBytes 1 (s.ports.get q).queue.length))
      ∧ exec (.portReset p tag index) s = .next (s.placed p ⟨[0xA4#8, tag, 0#8, index], some (.portReset q)⟩))
    ∧ (5 < index.toNat →
      exec (.portStatus p tag index) s = .next (s.answer p .portStatus tag .badIndex [])
      ∧ exec (.portReset p tag index) s = .next (s.answer p .portReset tag .badIndex []))

/-- The reply to STATUS_READ has one length in every state, and the request changes nothing else. The picture is, in order:
seconds count, clock-valid flag, time of day; run state, anchor and kind, due time, open time, interval, skipped count, no-due
reason; bank, phase, entry number, remaining count, phase condition, confirm counter, pending swap; meter activity, gate and
latest reading; frame in flight; heads; energy; journal; shared flags; the station, the reply counted in its queue. The codes
of the named values are those of the byte layouts. The 183 bytes follow from the model's layout of the picture (log entry 22). -/
def Obligations.StatusReadIsOnePicture : Prop :=
  (∀ (s : State) (st : Station) (tag : Byte) (a : Head → Bool) (frame : List Byte),
    s.runs = true → s.hasPlace (stationPort st) = true →
    (∀ h : Head, a h = ((s.member h).isSome && decide ((s.heads.get h).state = .armed))) →
    (s.frame = none → frame = List.replicate 21 0#8) →
    (∀ f : Frame, s.frame = some f → frame = [1#8] ++ leBytes 4 f.sequence ++ leBytes 4 f.due
      ++ [if f.forced then 1#8 else 0#8] ++ [if f.phase.sync = .free then 0#8 else 1#8] ++ leBytes 1 f.sync.code
      ++ [if f.phase.sync = .free then 0#8 else headSetByte ⟨a .h0, a .h1, a .h2, a .h3⟩]
      ++ ([Head.h0, .h1, .h2, .h3].map (fun h =>
          [if (f.members.get h).isSome then 1#8 else 0#8, outcomeByte ((f.members.get h).bind (·.outcome))])).flatten) →
    exec (.statusRead (stationPort st) tag) s = .next (s.answer (stationPort st) .statusRead tag .ok (s.statusBytes st))
    ∧ (s.statusBytes st).length = 183
    ∧ s.statusBytes st =
      leBytes 4 s.time.count ++ [if s.time.valid then 1#8 else 0#8] ++ leBytes 4 ((s.time.count % 86400 : Nat) : Int)
      ++ ([if s.sched.run = .held then 0#8 else 1#8] ++ optField 4 (s.sched.anchor.map (·.time))
        ++ optField 1 (s.sched.anchor.map (fun x => if x.kind = .frame then 0 else 1)) ++ optField 4 s.sched.due
        ++ optField 4 s.sched.openTime ++ leBytes 4 s.sched.interval ++ leBytes 2 s.sched.skipped
        ++ [if s.sched.due.isSome then 0#8 else if s.sched.run = .held then 1#8 else if s.frame.isSome then 2#8
            else if s.plan.remaining = some 0 then 3#8 else if s.energy.effective = .halt then 4#8 else 0#8])
      ++ ([if s.plan.active = .a then 0#8 else 1#8] ++ leBytes 1 s.plan.index ++ leBytes 4 s.plan.entry
        ++ optField 2 (s.plan.remaining.map Int.ofNat) ++ [if s.plan.remaining = some 0 then 1#8 else 0#8]
        ++ leBytes 1 s.plan.confirm ++ optField 1 (s.plan.swapPending.map Int.ofNat))
      ++ (leBytes 1 s.meter.activity.code ++ leBytes 1 s.meter.gateSelection.code
        ++ leBytes 1 (readingStateCode (s.meter.latest.map (·.state))) ++ optField 2 (s.meter.latest.map (·.bv))
        ++ optField 4 (s.meter.latest.map (fun r => (r.count : Int)))
        ++ optField 1 (s.meter.latest.map (fun r => (r.gate.code : Int)))
        ++ optField 4 (s.meter.latest.map (fun r => (r.time : Int))) ++ leBytes 1 (readingStateCode s.meter.previousState))
      ++ frame
      ++ ([Head.h0, .h1, .h2, .h3].map (fun h => leBytes 1 (s.heads.get h).state.code
          ++ [if (s.heads.get h).state = .off then 0#8 else 1#8] ++ leBytes 1 (s.heads.get h).miss
          ++ [if (s.heads.get h).exclusion.isSome then 1#8 else 0#8]
          ++ optField 1 ((s.heads.get h).exclusion.map (fun r => if r = .misses then 0 else 1))
          ++ [if (s.heads.get h).storageMark then 1#8 else 0#8])).flatten
      ++ (leBytes 2 s.energy.reading ++ leBytes 4 s.energy.readingTime ++ leBytes 1 s.energy.voltageTier.code
        ++ [if s.energy.floor = .none then 0#8 else 1#8] ++ leBytes 1 s.energy.effective.code ++ leBytes 4 s.energy.spend
        ++ ([Head.h0, .h1, .h2, .h3].map (fun h => leBytes 4 (s.energy.onTime.get h).ms
          ++ [if (s.energy.onTime.get h).running then 1#8 else 0#8])).flatten)
      ++ (optField 4 (s.journal.ring.head?.map (fun r => (r.sequence : Int)))
        ++ optField 4 (s.journal.ring.getLast?.map (fun r => (r.sequence : Int))) ++ leBytes 4 s.journal.next
        ++ optField 4 (s.journal.ack.map Int.ofNat) ++ leBytes 2 s.journal.unacknowledged
        ++ [if s.journal.fillRaised then 1#8 else 0#8])
      ++ ([Idx.i0, .i1, .i2, .i3, .i4, .i5, .i6, .i7].map (fun i => holderByte (s.flags.get i)))
      ++ (leBytes 2 (s.stations.get st).flags.toNat ++ leBytes 2 (s.stations.get st).enables.toNat
        ++ leBytes 1 ((s.ports.get (stationPort st)).queue.length + 1 : Nat)))
  ∧ [HeadState.off, .waking, .ticketed, .armed, .exposing, .reporting, .closing, .standby].map HeadState.code
      = [0, 1, 2, 3, 4, 5, 6, 7]
  ∧ [MeterActivity.idle, .settling, .gating].map MeterActivity.code = [0, 1, 2]
  ∧ [Gate.ms250, .s1, .s4].map Gate.code = [0, 1, 2]
  ∧ [none, some ReadingState.dark, some .saturated, some .stable, some .unstable].map readingStateCode = [0, 1, 2, 3, 4]
  ∧ [Tier.normal, .economy, .reserve, .halt].map Tier.code = [0, 1, 2, 3]
  ∧ [Sync.beforeD, .afterD].map Sync.code = [0, 1]
  ∧ [Sync.waiting, .window, .fired, .abandoned, .aborted].map Sync.code = [0, 1, 2, 3, 4]
  ∧ [none, some EntryOutcome.done, some .noHello, some .noReady, some .noResult, some .abandoned, some .aborted, some .reset,
      some .powerCut, some .lostPower].map outcomeByte = [0xFF#8, 0#8, 1#8, 2#8, 3#8, 4#8, 5#8, 6#8, 7#8, 8#8]
  ∧ [none, some Port.h0, some .h1, some .h2, some .h3, some .ul, some .sv].map holderByte
      = [0xFF#8, 0#8, 1#8, 2#8, 3#8, 4#8, 5#8]

/-! ## The clock and the schedule -/

/-- CLOCK_SET: the new count, VALID, a fresh second, the schedule and the frame in flight moved by the jump, CLOCK_SET raised
at both stations, and nothing else. CLOCK_READ reports the clock and changes nothing. The elapsed seconds of CLOCK_READ in
four bytes, modulo 4,294,967,296, are the model's choice (log entry 18). -/
def Obligations.ClockIsSetAndRead : Prop :=
  (∀ (s t : State) (p : Port) (tag : Byte) (count : BitVec 32) (jump : Int) (move : Member → Member),
     s.Accepts .clockSet p → jump = (count.toNat : Int) - s.time.count →
     (∀ m : Member, move m = if m.reached then m else { m with wakeTime := m.wakeTime + jump }) →
     t = { s with
       time := { count := count.toNat, valid := true, subSecond := 0, sinceSet := 0 }
       sched := { s.sched with
         anchor := s.sched.anchor.map (fun a => { a with time := a.time + jump })
         due := s.sched.due.map (· + jump)
         openTime := s.sched.openTime.map (· + jump)
         lastDue := s.sched.lastDue.map (· + jump) }
       frame := s.frame.map (fun f => { f with
         due := f.due + jump
         members := ⟨f.members.h0.map move, f.members.h1.map move, f.members.h2.map move, f.members.h3.map move⟩ })
       stations := ⟨{ s.stations.ul with flags := s.stations.ul.flags ||| 256#10 },
         { s.stations.sv with flags := s.stations.sv.flags ||| 256#10 }⟩ } →
     exec (.clockSet p tag count) s = .next (t.answer p .clockSet tag .ok
       (leBytes 4 s.time.count ++ [if s.time.valid then 1#8 else 0#8])))
  ∧ (∀ (s : State) (p : Port) (tag : Byte), s.Accepts .clockRead p →
     exec (.clockRead p tag) s = .next (s.answer p .clockRead tag .ok
       (leBytes 4 s.time.count ++ [if s.time.valid then 1#8 else 0#8] ++ leBytes 4 ((s.time.count % 86400 : Nat) : Int)
         ++ leBytes 4 ((s.time.sinceSet / 1000 : Nat) : Int))))

/-- The seconds count advances by one, after 4,294,967,295 to 0, in every state; while the part is stopped nothing but the
wrap and the day rollover follows. A day rollover of the running part, held or running, a frame in flight or not, at the wrap
too: the spend becomes 0 before what the rails that go off at that very advance add, the budget floor and the effective tier
are judged, and every head is admitted with no misses and no storage mark, but for the miss that an arm window of 0 gives a
member at that advance. Where that changes the tier and no frame is in flight, the due time is computed, before an AT_TIME
successor that starts at midnight is entered. A stopped part too has its spend 0 and its heads admitted. An advance of the
running part, rolled over or wrapped or neither, at which nothing falls only lets the second pass on its timers; at one it
meets an AT_TIME successor, opens the scheduled frame with its wakes, passes over a due time whose group is empty, or wakes a
member (D is in ReadyArmsOrFires). The wrap moves the schedule, D and every wake time not yet reached by 4,294,967,296, in a
stopped part too, which is the model's reading (log entry 21). That the advance completes the running second, with the
milliseconds left of it (log entry 4), and that the heads are readmitted before the tier is judged (log entry 41), are the
model's choices, and the order of the blocks at one advance is its reading (log entry 6). -/
def Obligations.SecondsCountAdvancesAndRollsOver : Prop :=
  (∀ s : State,
     (∃ t : State, exec .secondsCountAdvance s = .next t
       ∧ t.time.count = (if s.time.count + 1 = 4294967296 then 0 else s.time.count + 1)
       ∧ t.time.valid = s.time.valid ∧ t.time.subSecond = 0)
     ∧ (s.runs = false → s.time.count + 1 ≠ 4294967296 →
         s.time.valid = false ∨ (s.time.count + 1) % 86400 ≠ 0 →
         exec .secondsCountAdvance s =
           .next { s with time := { s.time with count := s.time.count + 1, subSecond := 0 } })
     ∧ (s.runs = true → s.frame = none → s.sched.run = .held → s.sched.openTime = none → s.time.count + 1 ≠ 4294967296 →
         s.time.valid = false ∨ (s.time.count + 1) % 86400 ≠ 0 →
         exec .secondsCountAdvance s = .next { s.elapse (1000 - s.time.subSecond) with
           time := { (s.elapse (1000 - s.time.subSecond)).time with count := s.time.count + 1, subSecond := 0 } }))
  ∧ (∀ s : State, s.time.valid = true → (s.time.count + 1) % 86400 = 0 → s.time.count + 1 ≠ 4294967296 →
     (s.runs = false → exec .secondsCountAdvance s = .next { s with
         time := { s.time with count := s.time.count + 1, subSecond := 0 }
         energy := { s.energy with spend := 0 }
         heads := ⟨{ s.heads.h0 with miss := 0, exclusion := none, storageMark := false },
           { s.heads.h1 with miss := 0, exclusion := none, storageMark := false },
           { s.heads.h2 with miss := 0, exclusion := none, storageMark := false },
           { s.heads.h3 with miss := 0, exclusion := none, storageMark := false }⟩ })
     ∧ (s.runs = true → s.EffectiveIsWorse → s.frame = none → s.sched.run = .held → s.sched.openTime = none →
         ∃ t : State, exec .secondsCountAdvance s = .next t ∧ t.energy.spend = 0 ∧ t.energy.floor = .none
           ∧ t.energy.effective = s.energy.voltageTier
           ∧ ∀ h : Head, (t.heads.get h).miss = 0 ∧ (t.heads.get h).exclusion = none ∧ (t.heads.get h).storageMark = false))
  ∧ (∀ s u : State, s.runs = true → s.midnight = true → u = s.advanced →
     (∃ t : State, exec .secondsCountAdvance s = .next t
       ∧ t.energy.spend ≤ (u.energy.onTime.h0.ms * s.settings.head.h0.current / 1000)
         + (u.energy.onTime.h1.ms * s.settings.head.h1.current / 1000)
         + (u.energy.onTime.h2.ms * s.settings.head.h2.current / 1000)
         + (u.energy.onTime.h3.ms * s.settings.head.h3.current / 1000)
       ∧ t.energy.floor = (if 0 < s.settings.allowance ∧ s.settings.allowance ≤ t.energy.spend then .economy else .none)
       ∧ t.energy.effective = worse t.energy.voltageTier t.energy.floor.tier
       ∧ ∀ h : Head, (t.heads.get h).storageMark = false
         ∧ (((t.heads.get h).miss = 0 ∧ (t.heads.get h).exclusion = none)
           ∨ ((t.heads.get h).miss = 1 ∧ (t.heads.get h).state = .closing ∧ t.outcomeOf h = some .noReady)))
     ∧ (∀ c : State, s.frame = none → s.energy.voltageTier ≠ s.energy.effective → s.energy.voltageTier ≠ .halt →
       c = u.computeDue → c.openReached = false →
       (s.NoEntryAhead → exec .secondsCountAdvance s = .next c)
       ∧ (∀ v : State, s.sched.run = .running → s.plan.successor.start = .atTime (s.nextSecond % 86400) →
         v = { c with
           plan := { s.plan with
             index := s.plan.successorIndex, entry := (s.plan.entry + 1) % 4294967296
             remaining := s.plan.successor.frameLimit, confirm := 0 }
           stations := ⟨{ u.stations.ul with flags := u.stations.ul.flags ||| 4#10 },
             { u.stations.sv with flags := u.stations.sv.flags ||| 4#10 }⟩ } →
         v.computeDue.openReached = false → exec .secondsCountAdvance s = .next v.computeDue)))
  ∧ (∀ (s u : State) (n : Int), s.AdvanceRests → u = s.advanced → n = u.time.count →
     (s.NoEntryAhead → u.frame = none → (∀ o : Int, u.sched.openTime = some o → n < o) →
       exec .secondsCountAdvance s = .next u)
     ∧ (∀ f : Frame, s.NoEntryAhead → u.frame = some f → u.frameFinished = false → f.QuietAt n →
       exec .secondsCountAdvance s = .next u)
     ∧ (∀ v : State, s.sched.run = .running → s.time.valid = true →
         s.plan.successor.start = .atTime (s.nextSecond % 86400) →
         v = { u with
           plan := { s.plan with
             index := s.plan.successorIndex, entry := (s.plan.entry + 1) % 4294967296
             remaining := s.plan.successor.frameLimit, confirm := 0 }
           stations := ⟨{ u.stations.ul with flags := u.stations.ul.flags ||| 4#10 },
             { u.stations.sv with flags := u.stations.sv.flags ||| 4#10 }⟩ } →
         (u.frame = none → v.computeDue.openReached = false → exec .secondsCountAdvance s = .next v.computeDue)
         ∧ (∀ f : Frame, u.frame = some f → u.frameFinished = false → f.QuietAt n →
             exec .secondsCountAdvance s = .next v))
     ∧ (∀ d o : Int, s.NoEntryAhead → u.frame = none → u.sched.due = some d → u.sched.openTime = some o → o ≤ n →
         ((∀ h : Head, u.group.get h = false) → ∀ v : State,
           v = { u with sched := { u.sched with
             skipped := min (u.sched.skipped + 1) 65535, anchor := some ⟨d, .frame⟩, lastDue := none } } →
           exec .secondsCountAdvance s = .next v.computeDue)
         ∧ ((∃ h : Head, u.group.get h = true) → n < d → ∃ (t : State) (f : Frame),
           exec .secondsCountAdvance s = .next t ∧ t.frame = some f
           ∧ f.sequence = (if s.journal.next = 4294967295 then 0 else s.journal.next) ∧ t.journal.next = f.sequence + 1
           ∧ f.due = d ∧ f.openTime = u.time.count ∧ f.forced = false ∧ f.skipped = u.sched.skipped
           ∧ f.interval = u.sched.interval ∧ f.tierAtOpen = u.energy.effective
           ∧ f.bank = s.plan.active ∧ f.phaseIndex = s.plan.index ∧ f.entry = s.plan.entry ∧ f.phase = s.plan.activePhase
           ∧ f.sync = (if s.plan.activePhase.sync = .free then .beforeD else .waiting)
           ∧ (∀ h : Head, f.members.get h = if u.group.get h = true then
               some ⟨d - (s.settings.head.get h).lead, decide (d - (s.settings.head.get h).lead ≤ n), none, none, none⟩
             else none)
           ∧ t.sched = { u.sched with due := none, openTime := none, skipped := 0 } ∧ t.meter.activity ≠ .idle
           ∧ (∀ h : Head, u.group.get h = true →
               (n < d - (s.settings.head.get h).lead → t.heads.get h = u.heads.get h)
               ∧ (d - (s.settings.head.get h).lead ≤ n → (u.heads.get h).state = .off ∨ (u.heads.get h).state = .standby →
                   (t.heads.get h).state = .waking
                   ∧ (t.heads.get h).hello = some ((s.settings.head.get h).helloTimeout * 1000)))
           ∧ (∀ h : Head, u.group.get h = false → (u.heads.get h).state = .standby → (t.heads.get h).state = .off)))
     ∧ (∀ (f : Frame) (h : Head) (m : Member) (x : HeadSeq), s.NoEntryAhead → u.frame = some f → f.QuietBut n h →
         f.members.get h = some m → m.outcome = none → m.reached = false → m.wakeTime ≤ n →
         x = { u.heads.get h with
           state := .waking, hello := some ((s.settings.head.get h).helloTimeout * 1000), ready := none, result := none
           grace := none, standby := none } →
         ((u.heads.get h).state = .off → exec .secondsCountAdvance s = .next { u with
             heads := u.heads.set h x
             energy := { u.energy with onTime := u.energy.onTime.set h { u.energy.onTime.get h with running := true } }
             frame := some { f with members := f.members.set h (some { m with reached := true }) } })
         ∧ ((u.heads.get h).state = .standby → u.hasPlace (headPort h) = true →
           exec .secondsCountAdvance s = .next { u with
             heads := u.heads.set h x
             ports := u.ports.set (headPort h) { u.ports.get (headPort h) with
               queue := (u.ports.get (headPort h)).queue ++
                 [⟨[0xE0#8, 0#8] ++ leBytes 1 (headCode h) ++ leBytes 4 f.sequence ++ leBytes 4 f.due, none⟩] }
             frame := some { f with members := f.members.set h (some { m with reached := true }) } })))
  ∧ (∀ (s w : State) (move : Member → Member), s.time.count + 1 = 4294967296 →
     (∀ m : Member, move m = if m.reached then m else { m with wakeTime := m.wakeTime - 4294967296 }) →
     w = { s with
       time := { s.time with count := 0, subSecond := 0 }
       sched := { s.sched with
         anchor := s.sched.anchor.map (fun a => { a with time := a.time - 4294967296 })
         due := s.sched.due.map (· - 4294967296)
         openTime := s.sched.openTime.map (· - 4294967296)
         lastDue := s.sched.lastDue.map (· - 4294967296) }
       frame := s.frame.map (fun f => { f with
         due := f.due - 4294967296
         members := ⟨f.members.h0.map move, f.members.h1.map move, f.members.h2.map move, f.members.h3.map move⟩ }) } →
     (s.runs = false → s.time.valid = false → exec .secondsCountAdvance s = .next w)
     ∧ (s.runs = false → s.time.valid = true → exec .secondsCountAdvance s = .next { w with
         energy := { s.energy with spend := 0 }
         heads := ⟨{ s.heads.h0 with miss := 0, exclusion := none, storageMark := false },
           { s.heads.h1 with miss := 0, exclusion := none, storageMark := false },
           { s.heads.h2 with miss := 0, exclusion := none, storageMark := false },
           { s.heads.h3 with miss := 0, exclusion := none, storageMark := false }⟩ }))

/-- SEQ_HOLD discards the due time and touches nothing else of the schedule; SEQ_RESUME taken while RUNNING changes nothing.
How the reply groups its fields is the model's reading (log entry 19). -/
def Obligations.HoldAndRunningResume : Prop :=
  ∀ (s : State) (p : Port) (tag : Byte), s.Accepts .seqHold p →
    exec (.seqHold p tag) s = .next
      (({ s with sched := { s.sched with run := .held, due := none, openTime := none } } : State).answer p .seqHold tag .ok [])
    ∧ (s.sched.run = .running →
        exec (.seqResume p tag) s = .next (s.answer p .seqResume tag .ok
          ([1#8] ++ optField 4 s.sched.due ++ optField 4 s.sched.openTime ++ leBytes 1 s.noDueReason.code)))

/-- SEQ_RESUME from HELD: RUNNING with a START anchor 5 s from now, which is the due time. With no lead above 4 s the frame
is still to open; with a longer lead of a non-empty group it opens at once. With a frame in flight the anchor is set at once,
the due time stays absent and the reason is IN_FRAME. An EXHAUSTED phase gives way to an AFTER_LIMIT successor, whether a
frame is in flight or not; before any other successor there is no due time, nor in HALT. How the reply groups its fields is
the model's reading (log entry 19), and the reply after an open that is taken at once its choice (log entry 35). How the
reply groups its fields is the model's reading (log entry 19). -/
def Obligations.ResumeStartsTheSchedule : Prop :=
  (∀ (s : State) (p : Port) (tag : Byte), s.Accepts .seqResume p → s.sched.run = .held → s.frame = none →
    s.energy.effective ≠ .halt → s.exhausted = false →
    ∃ t : State, exec (.seqResume p tag) s = .next t ∧ t.sched.run = .running
      ∧ t.sched.anchor = some ⟨s.time.count + 5, .start⟩ ∧ t.sched.lastDue = some (s.time.count + 5)
      ∧ t.sched.interval = min (s.plan.activePhase.interval * s.energy.effective.stretch) 86400
      ∧ t.meter.activity ≠ .idle
      ∧ (s.largestLead s.group ≤ 4 → t.frame = none ∧ t.sched.due = some (s.time.count + 5)
          ∧ t.sched.openTime = some (s.time.count + 5 - (s.largestLead s.group : Int))
          ∧ t.sched.skipped = min s.sched.skipped 65535
          ∧ (t.ports.get p).queue = (s.ports.get p).queue ++ [⟨[0xC1#8, tag, 0#8, 1#8]
              ++ optField 4 (some ((s.time.count : Int) + 5))
              ++ optField 4 (some ((s.time.count : Int) + 5 - s.largestLead s.group)) ++ [0#8], none⟩])
      ∧ (5 ≤ s.largestLead s.group → ∃ f : Frame, t.frame = some f ∧ f.due = s.time.count + 5 ∧ f.forced = false
          ∧ f.sequence = (if s.journal.next = 4294967295 then 0 else s.journal.next)
          ∧ f.skipped = min s.sched.skipped 65535 ∧ t.sched.due = none
          ∧ ∀ h : Head, (f.members.get h).isSome = s.group.get h))
  ∧ (∀ (s : State) (p : Port) (tag : Byte) (entered : Plan), s.Accepts .seqResume p → s.sched.run = .held →
    entered = { s.plan with
      index := s.plan.successorIndex, entry := (s.plan.entry + 1) % 4294967296
      remaining := s.plan.successor.frameLimit, confirm := 0 } →
    (∀ f : Frame, s.frame = some f → s.sched.due = none → s.sched.openTime = none →
      ∃ t : State, exec (.seqResume p tag) s = .next t
        ∧ t.sched = { s.sched with run := .running, anchor := some ⟨s.time.count + 5, .start⟩, lastDue := none }
        ∧ t.frame = some { f with resumedInFlight := true } ∧ t.meter.activity ≠ .idle
        ∧ (s.exhausted = true → s.plan.successor.start = .afterLimit → t.plan = entered
            ∧ ∀ st : Station, hasEvent (t.stations.get st).flags .phaseChanged = true)
        ∧ (s.exhausted = false ∨ s.plan.successor.start ≠ .afterLimit → t.plan = s.plan ∧ t.stations = s.stations)
        ∧ (t.ports.get p).queue = (s.ports.get p).queue ++
            [⟨[0xC1#8, tag, 0#8, 1#8] ++ optField 4 none ++ optField 4 none ++ [2#8], none⟩]
        ∧ t.heads = s.heads ∧ t.energy = s.energy ∧ t.journal = s.journal ∧ t.ramps = s.ramps)
    ∧ (s.frame = none → s.exhausted = true → s.plan.successor.start = .afterLimit → s.plan.successor.frameLimit ≠ some 0 →
        s.energy.effective ≠ .halt → (∀ h : Head, (s.settings.head.get h).lead ≤ 4) →
      ∃ t : State, exec (.seqResume p tag) s = .next t ∧ t.plan = entered ∧ t.frame = none
        ∧ (∀ st : Station, hasEvent (t.stations.get st).flags .phaseChanged = true)
        ∧ t.sched.run = .running ∧ t.sched.anchor = some ⟨s.time.count + 5, .start⟩
        ∧ t.sched.due = some (s.time.count + 5) ∧ t.sched.lastDue = some (s.time.count + 5)
        ∧ t.sched.openTime = some (s.time.count + 5 - (t.largestLead t.group : Int))
        ∧ t.sched.interval = min (s.plan.successor.interval * s.energy.effective.stretch) 86400
        ∧ t.sched.skipped = min s.sched.skipped 65535
        ∧ (t.ports.get p).queue = (s.ports.get p).queue ++ [⟨[0xC1#8, tag, 0#8, 1#8]
            ++ optField 4 (some ((s.time.count : Int) + 5))
            ++ optField 4 (some ((s.time.count : Int) + 5 - t.largestLead t.group)) ++ [0#8], none⟩])
    ∧ (∀ reason : Byte, s.frame = none →
        (s.exhausted = true ∧ s.plan.successor.start ≠ .afterLimit ∧ reason = 3#8)
          ∨ (s.exhausted = false ∧ s.energy.effective = .halt ∧ reason = 4#8) →
      ∃ t : State, exec (.seqResume p tag) s = .next t ∧ t.plan = s.plan ∧ t.frame = none
        ∧ t.sched = { s.sched with
            run := .running, anchor := some ⟨s.time.count + 5, .start⟩, lastDue := none, due := none, openTime := none }
        ∧ (t.ports.get p).queue = (s.ports.get p).queue ++
            [⟨[0xC1#8, tag, 0#8, 1#8] ++ optField 4 none ++ optField 4 none ++ [reason], none⟩]))

/-- The due time: from a held anchor it is the first multiple of the effective interval whose open time is not past, or the
START anchor itself while that is not past; the open time is the lead before it; the skipped count rises by the candidates
passed over, those before the last due time uncounted while the interval is the one in force. HELD, an EXHAUSTED phase and
HALT leave no due time. The stretch of a tier, the group and its largest lead are those of the tables. -/
def Obligations.DueTimeIsTheFirstAhead : Prop :=
  (∀ (s : State) (a : Anchor), s.sched.run = .running → s.exhausted = false → s.energy.effective ≠ .halt →
    s.sched.anchor = some a → 1 ≤ s.plan.activePhase.interval →
    ∃ k : Int,
      s.computeDue.sched.interval = min (s.plan.activePhase.interval * s.energy.effective.stretch) 86400
      ∧ a.kind.first ≤ k
      ∧ s.computeDue.sched.due = some (a.time + k * s.computeDue.sched.interval)
      ∧ s.computeDue.sched.lastDue = s.computeDue.sched.due
      ∧ s.computeDue.sched.openTime =
          some (a.time + k * s.computeDue.sched.interval - (s.largestLead s.group : Int))
      ∧ (a.kind = .start → (s.time.count : Int) ≤ a.time → k = 0)
      ∧ (¬(a.kind = .start ∧ (s.time.count : Int) ≤ a.time) →
          (s.time.count : Int) ≤ a.time + k * s.computeDue.sched.interval - s.largestLead s.group
          ∧ ∀ j : Int, a.kind.first ≤ j → j < k →
              a.time + j * s.computeDue.sched.interval - s.largestLead s.group < s.time.count)
      ∧ (s.sched.lastDue = none ∨ s.computeDue.sched.interval ≠ s.sched.interval →
          s.computeDue.sched.skipped = min (s.sched.skipped + (k - a.kind.first).toNat) 65535)
      ∧ (∀ last : Int, s.sched.lastDue = some last → s.computeDue.sched.interval = s.sched.interval →
          ∃ j : Int, a.kind.first ≤ j ∧ last ≤ a.time + j * s.computeDue.sched.interval
            ∧ (∀ i : Int, a.kind.first ≤ i → i < j → a.time + i * s.computeDue.sched.interval < last)
            ∧ s.computeDue.sched.skipped = min (s.sched.skipped + (k - j).toNat) 65535)
      ∧ s.computeDue = { s with sched := s.computeDue.sched }
      ∧ s.computeDue.sched.run = s.sched.run ∧ s.computeDue.sched.anchor = s.sched.anchor)
  ∧ (∀ s : State, s.sched.run = .held ∨ s.exhausted = true ∨ s.energy.effective = .halt →
      s.computeDue = { s with sched := { s.sched with due := none, openTime := none } })
  ∧ (AnchorKind.frame.first = 1 ∧ AnchorKind.start.first = 0)
  ∧ (Tier.normal.stretch = 1 ∧ Tier.economy.stretch = 2 ∧ Tier.reserve.stretch = 8)
  ∧ (∀ (s : State) (h : Head), s.group.get h = true ↔
      s.plan.activePhase.heads.get h = true ∧ (s.heads.get h).exclusion = none
      ∧ (s.energy.effective = .normal ∨ s.energy.effective = .economy
          ∨ (s.energy.effective = .reserve ∧ s.settings.reserveMask.get h = true)))
  ∧ (∀ (s : State) (g : HeadSet),
      (∀ h : Head, g.get h = true → (s.settings.head.get h).lead ≤ s.largestLead g)
      ∧ (s.largestLead g = 0 ∨ ∃ h : Head, g.get h = true ∧ s.largestLead g = (s.settings.head.get h).lead))

/-- FORCE_FRAME with its checks passed: a frame opens at once, marked forced, with the next sequence, D the largest lead
from now, and the group as its members; the pending skipped count goes with it, and the anchor stays. FORCE_FRAME turned
away: HALTED before BUSY before IDLE, with no other effect. -/
def Obligations.ForceFrameOpensOrIsTurnedAway : Prop :=
  (∀ (s : State) (p : Port) (tag : Byte), s.Accepts .forceFrame p → s.energy.effective ≠ .halt → s.frame = none →
     (∃ h : Head, s.group.get h = true) →
     ∃ (t : State) (f : Frame), exec (.forceFrame p tag) s = .next t ∧ t.frame = some f
       ∧ f.sequence = (if s.journal.next = 4294967295 then 0 else s.journal.next)
       ∧ t.journal.next = f.sequence + 1
       ∧ f.due = s.time.count + (s.largestLead s.group : Int) ∧ f.openTime = s.time.count ∧ f.forced = true
       ∧ f.skipped = s.sched.skipped ∧ f.interval = s.sched.interval ∧ f.tierAtOpen = s.energy.effective
       ∧ f.bank = s.plan.active ∧ f.phaseIndex = s.plan.index ∧ f.entry = s.plan.entry ∧ f.phase = s.plan.activePhase
       ∧ (∀ h : Head, (f.members.get h).isSome = s.group.get h)
       ∧ t.sched.anchor = s.sched.anchor ∧ t.sched.due = none ∧ t.sched.openTime = none ∧ t.sched.skipped = 0
       ∧ t.sched.run = s.sched.run ∧ t.meter.activity ≠ .idle ∧ t.plan = s.plan
       ∧ (t.ports.get p).queue = (s.ports.get p).queue ++
           [⟨[0xC2#8, tag, 0#8] ++ leBytes 4 f.sequence ++ leBytes 4 f.due, none⟩])
  ∧ (∀ (s : State) (p : Port) (tag : Byte), s.Accepts .forceFrame p →
     (s.energy.effective = .halt → exec (.forceFrame p tag) s = .next (s.answer p .forceFrame tag .halted []))
     ∧ (s.energy.effective ≠ .halt → s.frame.isSome = true →
         exec (.forceFrame p tag) s = .next (s.answer p .forceFrame tag .busy []))
     ∧ (s.energy.effective ≠ .halt → s.frame = none → (∀ h : Head, s.group.get h = false) →
         exec (.forceFrame p tag) s = .next (s.answer p .forceFrame tag .idle [])))

/-! ## Settings -/

/-- A value that is written is read as its setting's rule says: a number is stored at the nearer end of its range, CLAMPED
when it lay outside; a code outside its set takes the default, DEFAULTED. What is stored reads back, and no other setting
changes. The ranges and code sets are those of the catalogue, an item code with an index names the setting of its row and
nothing else names one, each item is the field of its name, and the default settings are the catalogue's. -/
def Obligations.StoredSettingReadsBack : Prop :=
  (∀ (x : Settings) (a b : Setting) (raw : BitVec 32),
    (x.store (a.rule.settle raw).1 a).value a = (a.rule.settle raw).1
    ∧ (a ≠ b → (x.store (a.rule.settle raw).1 a).value b = x.value b))
  ∧ (∀ (lo hi : Nat) (raw : BitVec 32), lo ≤ hi →
    (ValueRule.settle raw (.unsigned lo hi)).1 = max lo (min raw.toNat hi)
    ∧ (ValueRule.settle raw (.unsigned lo hi)).2 = (if lo ≤ raw.toNat ∧ raw.toNat ≤ hi then .ok else .clamped))
  ∧ (∀ (lo hi : Int) (raw : BitVec 32), lo ≤ hi →
    (ValueRule.settle raw (.signed lo hi)).1 = max lo (min raw.toInt hi)
    ∧ (ValueRule.settle raw (.signed lo hi)).2 = (if lo ≤ raw.toInt ∧ raw.toInt ≤ hi then .ok else .clamped))
  ∧ (∀ (top default : Nat) (raw : BitVec 32),
    (raw.toNat ≤ top → ValueRule.settle raw (.coded top default) = ((raw.toNat : Int), .ok))
    ∧ (top < raw.toNat → ValueRule.settle raw (.coded top default) = ((default : Int), .defaulted)))
  ∧ (Setting.key.rule = .unsigned 0 4095 ∧ Setting.calibration.rule = .signed (-2048) 2047
    ∧ Setting.meterPeriod.rule = .unsigned 10 3600 ∧ Setting.hysteresis.rule = .unsigned 0 255
    ∧ Setting.darkFloor.rule = .signed (-2176) 3454 ∧ Setting.settle.rule = .unsigned 0 1000
    ∧ Setting.edge.rule = .coded 1 0 ∧ Setting.shutterBase.rule = .unsigned 10 1000
    ∧ Setting.correctionLimit.rule = .unsigned 0 384 ∧ Setting.economyThreshold.rule = .unsigned 0 16383
    ∧ Setting.reserveThreshold.rule = .unsigned 0 16383 ∧ Setting.haltThreshold.rule = .unsigned 0 16383
    ∧ Setting.tierHysteresis.rule = .unsigned 0 2000 ∧ Setting.allowance.rule = .unsigned 0 4294967295
    ∧ Setting.reserveMask.rule = .coded 15 1 ∧ Setting.fillLevel.rule = .unsigned 1 256)
  ∧ (∀ (st : Station) (p : Port), (Setting.push st).rule = .coded 1 0 ∧ (Setting.lineSpeed p).rule = .coded 3 2
    ∧ (Setting.errorThreshold p).rule = .unsigned 1 255)
  ∧ (∀ h : Head, (Setting.lead h).rule = .unsigned 0 120 ∧ (Setting.helloTimeout h).rule = .unsigned 1 120
    ∧ (Setting.readyTimeout h).rule = .unsigned 1 120 ∧ (Setting.resultTimeout h).rule = .unsigned 1 600
    ∧ (Setting.standbyThreshold h).rule = .unsigned 0 3600 ∧ (Setting.missLimit h).rule = .unsigned 1 15
    ∧ (Setting.cycleReserve h).rule = .unsigned 1 600 ∧ (Setting.controls h).rule = .coded 3 3
    ∧ (Setting.current h).rule = .unsigned 1 5000 ∧ (Setting.triggerMode h).rule = .coded 1 0
    ∧ (Setting.pulseWidth h).rule = .unsigned 1 1000 ∧ (Setting.polarity h).rule = .coded 1 0)
  ∧ (∀ i : Nat, [0x01, 0x02, 0x03, 0x04, 0x05, 0x06, 0x07, 0x08].map (fun c => settingOf c i)
      = [some .key, some .calibration, some .meterPeriod, some .hysteresis, some .darkFloor, some .settle, some .edge,
        some .shutterBase]
    ∧ [0x09, 0x0A, 0x0B, 0x0C, 0x0D, 0x0E, 0x0F, 0x10].map (fun c => settingOf c i)
      = [some .correctionLimit, some .economyThreshold, some .reserveThreshold, some .haltThreshold, some .tierHysteresis,
        some .allowance, some .reserveMask, some .fillLevel])
  ∧ settingOf 0x18 4 = some (.push .ul) ∧ settingOf 0x18 5 = some (.push .sv)
  ∧ (∀ p : Port, settingOf 0x20 (portCode p) = some (.lineSpeed p) ∧ settingOf 0x21 (portCode p) = some (.errorThreshold p))
  ∧ (∀ h : Head, [0x30, 0x31, 0x32, 0x33, 0x34, 0x35].map (fun c => settingOf c (headCode h))
      = [some (.lead h), some (.helloTimeout h), some (.readyTimeout h), some (.resultTimeout h), some (.standbyThreshold h),
        some (.missLimit h)]
    ∧ [0x36, 0x37, 0x38, 0x39, 0x3A, 0x3B].map (fun c => settingOf c (headCode h))
      = [some (.cycleReserve h), some (.controls h), some (.current h), some (.triggerMode h), some (.pulseWidth h),
        some (.polarity h)])
  ∧ (∀ item index : Nat, (settingOf item index).isSome = true ↔
      (0x01 ≤ item ∧ item ≤ 0x10) ∨ (item = 0x18 ∧ (index = 4 ∨ index = 5)) ∨ ((item = 0x20 ∨ item = 0x21) ∧ index ≤ 5)
        ∨ (0x30 ≤ item ∧ item ≤ 0x3B ∧ index ≤ 3))
  ∧ (∀ x : Settings,
    [Setting.key, .calibration, .meterPeriod, .hysteresis, .darkFloor, .settle, .shutterBase, .correctionLimit].map x.value
      = [(x.key : Int), x.calibration, x.meterPeriod, x.hysteresis, x.darkFloor, x.settle, x.shutterBase, x.correctionLimit]
    ∧ [Setting.economyThreshold, .reserveThreshold, .haltThreshold, .tierHysteresis, .allowance, .fillLevel].map x.value
      = [(x.economyThreshold : Int), x.reserveThreshold, x.haltThreshold, x.tierHysteresis, x.allowance, x.fillLevel]
    ∧ x.value .edge = (if x.edge = .rising then 0 else 1) ∧ x.value .reserveMask = (headSetByte x.reserveMask).toNat
    ∧ (∀ st : Station, x.value (.push st) = (if x.push.get st = .flag then 0 else 1))
    ∧ (∀ p : Port, x.value (.lineSpeed p) = ((x.port.get p).lineSpeed.code : Int)
        ∧ x.value (.errorThreshold p) = (x.port.get p).errorThreshold)
    ∧ (∀ (h : Head) (y : HeadSettings), y = x.head.get h →
      [Setting.lead h, .helloTimeout h, .readyTimeout h, .resultTimeout h, .standbyThreshold h, .missLimit h].map x.value
        = [(y.lead : Int), y.helloTimeout, y.readyTimeout, y.resultTimeout, y.standbyThreshold, y.missLimit]
      ∧ [Setting.cycleReserve h, .current h, .pulseWidth h].map x.value = [(y.cycleReserve : Int), y.current, y.pulseWidth]
      ∧ x.value (.controls h) = (if y.gainControl then 1 else 0) + (if y.apertureControl then 2 else 0)
      ∧ x.value (.triggerMode h) = (if y.triggerMode = .timed then 0 else 1)
      ∧ x.value (.polarity h) = (if y.polarity = .activeHigh then 0 else 1)))
  ∧ [LineSpeed.b9600, .b19200, .b57600, .b115200].map LineSpeed.code = [0, 1, 2, 3]
  ∧ State.reset.settings = Settings.default
  ∧ [Setting.key, .calibration, .meterPeriod, .hysteresis, .darkFloor, .settle, .edge, .shutterBase].map Settings.default.value
      = [1536, 0, 60, 16, -128, 50, 0, 250]
  ∧ [Setting.correctionLimit, .economyThreshold, .reserveThreshold, .haltThreshold, .tierHysteresis, .allowance, .reserveMask,
      .fillLevel].map Settings.default.value = [192, 11800, 11400, 11000, 200, 0, 1, 192]
  ∧ (∀ (st : Station) (p : Port), [Setting.push st, .lineSpeed p, .errorThreshold p].map Settings.default.value = [0, 2, 16])
  ∧ (∀ h : Head, [Setting.lead h, .helloTimeout h, .readyTimeout h, .resultTimeout h, .standbyThreshold h, .missLimit h].map
        Settings.default.value = [15, 30, 20, 60, 0, 3]
      ∧ [Setting.cycleReserve h, .controls h, .current h, .triggerMode h, .pulseWidth h, .polarity h].map Settings.default.value
        = [10, 3, 300, 0, 100, 0])

/-- CONFIG_WRITE of a setting whose effect waits for its next use stores the value and answers with the former and the stored
one; a line speed waits for the reply; a correction limit clamps every correction. The eight others act at the write beside
being stored: the meter period restarts its timer, a polarity moves an inactive output, an error threshold and the fill level
have their marker judged, the allowance the budget floor and the tier, the miss limit its head, and a lead or a cycle reserve
has the due time computed while no frame is in flight. A tier that the allowance, or the rail off of a head excluded in
STANDBY, changes has the due time computed too while no frame is in flight, held or running. CONFIG_READ answers with the
stored value. An unknown item or index is BAD_INDEX. The two values as four-byte fields in the reply of CONFIG_WRITE are the
model's reading (log entry 33). -/
def Obligations.ConfigWriteStores : Prop :=
  ∀ (s u : State) (p : Port) (tag item index : Byte) (value : BitVec 32) (x : Setting) (v : Int) (st : Status)
      (fields : List Byte),
    s.Accepts .configWrite p →
    (settingOf item.toNat index.toNat = none →
      exec (.configWrite p tag item index value) s = .next (s.answer p .configWrite tag .badIndex [])
      ∧ exec (.configRead p tag item index) s = .next (s.answer p .configRead tag .badIndex []))
    ∧ (settingOf item.toNat index.toNat = some x → x.rule.settle value = (v, st) →
        u = { s with settings := s.settings.store v x } →
        fields = [item, index] ++ leBytes 4 (s.settings.value x) ++ leBytes 4 v →
        (x.Quiet → exec (.configWrite p tag item index value) s = .next (u.answer p .configWrite tag st fields))
        ∧ (∀ q : Port, x = .lineSpeed q → exec (.configWrite p tag item index value) s = .next (u.placed p
            ⟨[0xB4#8, tag, st.code] ++ fields, some (.lineSpeed q (u.settings.port.get q).lineSpeed)⟩))
        ∧ (x = .correctionLimit → ∃ t : State,
            exec (.configWrite p tag item index value) s = .next (t.answer p .configWrite tag st fields)
            ∧ t = { u with ramps := t.ramps }
            ∧ ∀ h : Head, t.ramps.get h = { s.ramps.get h with correction := max (-v) (min (s.ramps.get h).correction v) })
        ∧ (x = .meterPeriod → exec (.configWrite p tag item index value) s =
            .next (({ u with meter := { s.meter with periodTimer := some (v.toNat * 1000) } } : State).answer p .configWrite
              tag st fields))
        ∧ (∀ h : Head, x = .polarity h → exec (.configWrite p tag item index value) s =
            .next (({ u with triggers := s.triggers.set h (if (s.triggers.get h).asserted = true then s.triggers.get h
                else { s.triggers.get h with level := decide (v = 1) }) } : State).answer p .configWrite tag st fields))
        ∧ (∀ q : Port, x = .errorThreshold q →
            ((s.ports.get q).thresholdRaised = false → v ≤ ((s.ports.get q).errors.total : Int) →
              exec (.configWrite p tag item index value) s = .next (({ u with
                ports := s.ports.set q { s.ports.get q with thresholdRaised := true }
                stations := ⟨{ s.stations.ul with flags := s.stations.ul.flags ||| 64#10 },
                  { s.stations.sv with flags := s.stations.sv.flags ||| 64#10 }⟩ } : State).answer p .configWrite
                tag st fields))
            ∧ ((s.ports.get q).thresholdRaised = true ∨ ((s.ports.get q).errors.total : Int) < v →
              exec (.configWrite p tag item index value) s = .next (u.answer p .configWrite tag st fields)))
        ∧ (x = .fillLevel →
            (v ≤ (s.journal.unacknowledged : Int) → s.journal.fillRaised = false →
              exec (.configWrite p tag item index value) s = .next (({ u with
                journal := { s.journal with fillRaised := true }
                stations := ⟨{ s.stations.ul with flags := s.stations.ul.flags ||| 2#10 },
                  { s.stations.sv with flags := s.stations.sv.flags ||| 2#10 }⟩ } : State).answer p .configWrite
                tag st fields))
            ∧ (v ≤ (s.journal.unacknowledged : Int) → s.journal.fillRaised = true →
              exec (.configWrite p tag item index value) s = .next (u.answer p .configWrite tag st fields))
            ∧ ((s.journal.unacknowledged : Int) < v → exec (.configWrite p tag item index value) s =
              .next (({ u with journal := { s.journal with fillRaised := false } } : State).answer p .configWrite
                tag st fields)))
        ∧ (∀ (floor : BudgetFloor) (tier : Tier) (y : State), x = .allowance →
            floor = (if 0 < v ∧ v ≤ (s.energy.spend : Int) then .economy else .none) →
            tier = worse s.energy.voltageTier floor.tier →
            y = { u with
              energy := { s.energy with floor := floor, effective := tier }
              stations := if tier = s.energy.effective then s.stations
                else ⟨{ s.stations.ul with flags := s.stations.ul.flags ||| 16#10 },
                  { s.stations.sv with flags := s.stations.sv.flags ||| 16#10 }⟩ } →
            (tier = s.energy.effective → s.frame = none ∨ s.frameFinished = false →
              exec (.configWrite p tag item index value) s = .next (y.answer p .configWrite tag st fields))
            ∧ (tier ≠ s.energy.effective → tier ≠ .halt → s.frame.isSome = true → s.frameFinished = false →
              exec (.configWrite p tag item index value) s = .next (y.answer p .configWrite tag st fields))
            ∧ (tier ≠ s.energy.effective → tier ≠ .halt → s.frame = none → y.computeDue.openReached = false →
              exec (.configWrite p tag item index value) s = .next (y.computeDue.answer p .configWrite tag st fields)))
        ∧ (∀ h : Head, x = .missLimit h → s.frame = none ∨ s.frameFinished = false →
            ((s.heads.get h).exclusion = none → v ≤ ((s.heads.get h).miss : Int) → (s.heads.get h).state ≠ .standby →
              exec (.configWrite p tag item index value) s = .next (({ u with
                heads := s.heads.set h { s.heads.get h with exclusion := some .misses }
                stations := ⟨{ s.stations.ul with flags := s.stations.ul.flags ||| 32#10 },
                  { s.stations.sv with flags := s.stations.sv.flags ||| 32#10 }⟩ } : State).answer p .configWrite
                tag st fields))
            ∧ ((s.heads.get h).exclusion = none → v ≤ ((s.heads.get h).miss : Int) → (s.heads.get h).state = .standby →
              s.TierChangeRests → ∃ t : State,
              exec (.configWrite p tag item index value) s = .next (t.answer p .configWrite tag st fields)
              ∧ t.settings = u.settings ∧ (t.heads.get h).state = .off ∧ (t.heads.get h).exclusion = some .misses
              ∧ ∀ y : Station, hasEvent (t.stations.get y).flags .headExcluded = true)
            ∧ ((s.heads.get h).exclusion = none → v ≤ ((s.heads.get h).miss : Int) → (s.heads.get h).state = .standby →
              s.frame = none → ∃ y t : State,
              exec (.configWrite p tag item index value) s = .next (t.answer p .configWrite tag st fields) ∧ s.SettlesTo y t
              ∧ y = { u with
                heads := y.heads, triggers := y.triggers, ports := y.ports, energy := y.energy, stations := y.stations
                flags := y.flags }
              ∧ (y.heads.get h).state = .off ∧ (y.heads.get h).exclusion = some .misses ∧ (y.triggers.get h).Quiet
              ∧ (y.energy.onTime.get h).ms = 0
              ∧ (∀ g : Head, g ≠ h → y.heads.get g = s.heads.get g ∧ y.triggers.get g = s.triggers.get g)
              ∧ ∀ z : Station, hasEvent (y.stations.get z).flags .headExcluded = true)
            ∧ ((s.heads.get h).exclusion.isSome = true ∨ ((s.heads.get h).miss : Int) < v →
              exec (.configWrite p tag item index value) s = .next (u.answer p .configWrite tag st fields)))
        ∧ (∀ h : Head, x = .lead h ∨ x = .cycleReserve h →
            (s.frame.isSome = true →
              exec (.configWrite p tag item index value) s = .next (u.answer p .configWrite tag st fields))
            ∧ (s.frame = none → u.computeDue.openReached = false → exec (.configWrite p tag item index value) s =
              .next (u.computeDue.answer p .configWrite tag st fields)))
        ∧ exec (.configRead p tag item index) s = .next (s.answer p .configRead tag .ok
            ([item, index] ++ leBytes 4 (s.settings.value x))))

/-! ## Shared words and flags -/

/-- FLAG_SET, FLAG_CLEAR and FLAG_READ: a clear flag is taken by the requester and a held one keeps its holder; the holder,
and SV whatever the holder, clears it; another port is told the holder. An index above 7 is BAD_INDEX, with no fields and no
effect. That the flag index stands first in each reply to FLAG_CLEAR, and beside the holder in a NOT_HOLDER one, is the
model's choice (log entry 15). -/
def Obligations.SharedFlagsHaveOneHolder : Prop :=
  (∀ (s : State) (p : Port) (tag flag : Byte), s.runs = true → s.hasPlace p = true → 7 < flag.toNat →
    exec (.flagSet p tag flag) s = .next (s.answer p .flagSet tag .badIndex [])
    ∧ exec (.flagClear p tag flag) s = .next (s.answer p .flagClear tag .badIndex []))
  ∧ ∀ (s : State) (p : Port) (tag flag : Byte) (i : Idx), s.runs = true → s.hasPlace p = true →
    idxOfNat flag.toNat = some i →
    (s.flags.get i = none →
      exec (.flagSet p tag flag) s = .next (({ s with flags := s.flags.set i (some p) } : State).answer p .flagSet tag .ok
        [flag, 0#8, BitVec.ofNat 8 (portCode p)])
      ∧ exec (.flagClear p tag flag) s = .next (s.answer p .flagClear tag .ok [flag, 0#8, 0xFF#8]))
    ∧ (∀ q : Port, s.flags.get i = some q →
      exec (.flagSet p tag flag) s = .next (s.answer p .flagSet tag .ok [flag, 1#8, BitVec.ofNat 8 (portCode q)])
      ∧ (q = p ∨ p = .sv → exec (.flagClear p tag flag) s =
          .next (({ s with flags := s.flags.set i none } : State).answer p .flagClear tag .ok
            [flag, 1#8, BitVec.ofNat 8 (portCode q)]))
      ∧ (q ≠ p → p ≠ .sv → exec (.flagClear p tag flag) s =
          .next (s.answer p .flagClear tag .notHolder [flag, BitVec.ofNat 8 (portCode q)])))
    ∧ exec (.flagRead p tag) s = .next (s.answer p .flagRead tag .ok
        [holderByte s.flags.i0, holderByte s.flags.i1, holderByte s.flags.i2, holderByte s.flags.i3,
         holderByte s.flags.i4, holderByte s.flags.i5, holderByte s.flags.i6, holderByte s.flags.i7])

/-- BULLETIN_WRITE writes one word of the requester's own window and raises BULLETIN_CHANGED at each station other than the
writer; an index above 7 is BAD_INDEX with no effect. -/
def Obligations.BulletinWriteKeepsToItsWindow : Prop :=
  ∀ (s : State) (p : Port) (tag index : Byte) (value : BitVec 16), s.runs = true → s.hasPlace p = true →
    (∀ i : Idx, idxOfNat index.toNat = some i → ∃ t : State,
      exec (.bulletinWrite p tag index value) s = .next (t.answer p .bulletinWrite tag .ok
        ([BitVec.ofNat 8 (portCode p), index] ++ toBytes2 ((s.windows.get p).get i) ++ toBytes2 value))
      ∧ t = { s with windows := t.windows, stations := t.stations }
      ∧ (t.windows.get p).get i = value
      ∧ (∀ (q : Port) (j : Idx), q ≠ p ∨ j ≠ i → (t.windows.get q).get j = (s.windows.get q).get j)
      ∧ (∀ st : Station, (t.stations.get st).enables = (s.stations.get st).enables
          ∧ (t.stations.get st).flags =
              if stationPort st = p then (s.stations.get st).flags else (s.stations.get st).flags ||| 128#10))
    ∧ (7 < index.toNat → exec (.bulletinWrite p tag index value) s =
        .next (s.answer p .bulletinWrite tag .badIndex []))

/-- BULLETIN_READ, whole: the eight words of any window to any port, with no other effect, or BAD_INDEX. -/
def Obligations.BulletinReadReturnsTheWindow : Prop :=
  ∀ (s : State) (p : Port) (tag window : Byte), s.runs = true → s.hasPlace p = true →
    (∀ q : Port, window.toNat = portCode q →
      exec (.bulletinRead p tag window) s = .next (s.answer p .bulletinRead tag .ok
        ([window] ++ toBytes2 (s.windows.get q).i0 ++ toBytes2 (s.windows.get q).i1 ++ toBytes2 (s.windows.get q).i2
          ++ toBytes2 (s.windows.get q).i3 ++ toBytes2 (s.windows.get q).i4 ++ toBytes2 (s.windows.get q).i5
          ++ toBytes2 (s.windows.get q).i6 ++ toBytes2 (s.windows.get q).i7)))
    ∧ (5 < window.toNat → exec (.bulletinRead p tag window) s = .next (s.answer p .bulletinRead tag .badIndex []))

/-! ## The plan -/

/-- PLAN_CLEAR and PLAN_COPY by the holder of F0 with no swap pending: the shadow bank is emptied, or becomes a copy of the
active bank; nothing else changes; and a copy of a valid plan commits from every entry below its phase count. -/
def Obligations.PlanClearAndCopyFillTheShadow : Prop :=
  ∀ (s : State) (p : Port) (tag : Byte), s.Accepts .planClear p → s.flags.i0 = some p → s.plan.swapPending = none →
    (∃ t : State, exec (.planClear p tag) s = .next (t.answer p .planClear tag .ok [])
      ∧ t.plan.shadowBank = ⟨[], []⟩ ∧ t.plan.activeBank = s.plan.activeBank
      ∧ t = { s with plan := { s.plan with bankA := t.plan.bankA, bankB := t.plan.bankB } })
    ∧ (∃ t : State, exec (.planCopy p tag) s = .next (t.answer p .planCopy tag .ok [])
      ∧ t.plan.shadowBank = s.plan.activeBank ∧ t.plan.activeBank = s.plan.activeBank
      ∧ t = { s with plan := { s.plan with bankA := t.plan.bankA, bankB := t.plan.bankB } }
      ∧ (s.PlanValid → ∀ entry : Nat, entry < t.plan.shadowBank.phases.length →
          commitFault t.plan.shadowBank entry = none))

/-- Each of the six plan edits is NOT_HOLDER from a port that does not hold F0, and otherwise BUSY while a swap is pending,
with no other effect. A refused PHASE_APPEND carries the count, here for these refusals too by the model's reading (log entry
14). -/
def Obligations.PlanEditsNeedTheHolder : Prop :=
  ∀ (i : Instr) (s : State) (p : Port) (k : Kind) (c tag : Byte) (fields : List Byte),
    i.wellFormed = true → requestPort i = some p → bodyOfCommand i = some (c :: tag :: fields) → kindOfCode c = some k →
    k ∈ [Kind.planClear, .planCopy, .phaseAppend, .phaseReplace, .ladderPut, .commit] → s.Accepts k p →
    (s.flags.i0 ≠ some p → exec i s = .next (s.answer p k tag .notHolder
      (if k = .phaseAppend then leBytes 1 s.plan.shadowBank.phases.length else [])))
    ∧ (s.flags.i0 = some p → s.plan.swapPending.isSome = true → exec i s = .next (s.answer p k tag .busy
      (if k = .phaseAppend then leBytes 1 s.plan.shadowBank.phases.length else [])))

/-- PHASE_APPEND and PHASE_REPLACE by the holder: the stored record goes to the end, or to the place named; FULL, BAD_INDEX
and INVALID store nothing. -/
def Obligations.PhasePutsStore : Prop :=
  ∀ (s : State) (p : Port) (tag index : Byte) (r : RawPhase), s.Accepts .phaseAppend p → s.flags.i0 = some p →
    s.plan.swapPending = none →
    (16 ≤ s.plan.shadowBank.phases.length → exec (.phaseAppend p tag r) s =
      .next (s.answer p .phaseAppend tag .full (leBytes 1 s.plan.shadowBank.phases.length)))
    ∧ (s.plan.shadowBank.phases.length < 16 → ∀ reason : Reason, putPhase r = .inl reason →
        exec (.phaseAppend p tag r) s = .next (s.answer p .phaseAppend tag .invalid
          (reason.code :: leBytes 1 s.plan.shadowBank.phases.length)))
    ∧ (s.plan.shadowBank.phases.length < 16 → ∀ (ph : Phase) (clamped : Bool), putPhase r = .inr (ph, clamped) →
        exec (.phaseAppend p tag r) s = .next (({ s with
            plan := s.plan.setShadow ⟨s.plan.shadowBank.phases ++ [ph], s.plan.shadowBank.ladder⟩ } : State).answer p .phaseAppend tag
          (if clamped then .clamped else .ok) (leBytes 1 ((s.plan.shadowBank.phases.length + 1 : Nat) : Int))))
    ∧ (s.plan.shadowBank.phases.length ≤ index.toNat → exec (.phaseReplace p tag index r) s =
        .next (s.answer p .phaseReplace tag .badIndex []))
    ∧ (index.toNat < s.plan.shadowBank.phases.length → ∀ reason : Reason, putPhase r = .inl reason →
        exec (.phaseReplace p tag index r) s = .next (s.answer p .phaseReplace tag .invalid [reason.code]))
    ∧ (index.toNat < s.plan.shadowBank.phases.length → ∀ (ph : Phase) (clamped : Bool), putPhase r = .inr (ph, clamped) →
        exec (.phaseReplace p tag index r) s = .next (({ s with
            plan := s.plan.setShadow ⟨s.plan.shadowBank.phases.set index.toNat ph, s.plan.shadowBank.ladder⟩ } : State).answer p .phaseReplace tag
          (if clamped then .clamped else .ok) (leBytes 1 s.plan.shadowBank.phases.length)))

/-- A record that is put is refused only for a structural fault, in the order of the reasons. Otherwise start kind, sync mode
and head set are stored as given, each number that the start kind, the presence bit and the sync mode let be examined is
stored at the nearer end of its range, and the put is CLAMPED exactly when one of those numbers lay outside. -/
def Obligations.StoredPhaseIsInRange : Prop :=
  ∀ r : RawPhase,
    (∀ (ph : Phase) (clamped : Bool), putPhase r = .inr (ph, clamped) → ph.InRange
      ∧ (r.startKind = 0#8 → ph.start = .atTime (min r.startTime.toNat 86399))
      ∧ (r.startKind = 1#8 → ph.start =
          .onDarker (max (-2176) (min r.threshold.toInt 3454)) (max 1 (min r.confirm.toNat 64)))
      ∧ (r.startKind = 2#8 → ph.start =
          .onBrighter (max (-2176) (min r.threshold.toInt 3454)) (max 1 (min r.confirm.toNat 64)))
      ∧ (r.startKind = 3#8 → ph.start = .afterLimit)
      ∧ ph.interval = max 2 (min r.interval.toNat 86400)
      ∧ ph.frameLimit = (if r.presence.getLsbD 0 then some (max 1 r.frameLimit.toNat) else none)
      ∧ (∀ h : Head, ph.heads.get h = r.headSet.getLsbD (headCode h))
      ∧ ph.sync = (if r.syncMode = 0#8 then .free else .locked)
      ∧ ph.armWindow = (if r.syncMode = 0#8 then 0 else min r.armWindow.toNat 30)
      ∧ ph.compensation = max (-640) (min r.compensation.toInt 640)
      ∧ ph.targetLevel = max 32 (min r.targetLevel.toNat 992)
      ∧ ph.feedbackWeight = min r.feedbackWeight.toNat 16
      ∧ ph.slewLimit = max 1 (min r.slewLimit.toNat 192)
      ∧ ph.smoothingWeight = max 1 (min r.smoothingWeight.toNat 16)
      ∧ ph.deadband = min r.deadband.toNat 32
      ∧ (clamped = true ↔
          (r.startKind = 0#8 ∧ 86399 < r.startTime.toNat)
          ∨ ((r.startKind = 1#8 ∨ r.startKind = 2#8)
              ∧ (r.threshold.toInt < -2176 ∨ 3454 < r.threshold.toInt ∨ r.confirm.toNat < 1 ∨ 64 < r.confirm.toNat))
          ∨ r.interval.toNat < 2 ∨ 86400 < r.interval.toNat
          ∨ (r.presence.getLsbD 0 = true ∧ r.frameLimit.toNat = 0)
          ∨ (r.syncMode = 1#8 ∧ 30 < r.armWindow.toNat)
          ∨ r.compensation.toInt < -640 ∨ 640 < r.compensation.toInt
          ∨ r.targetLevel.toNat < 32 ∨ 992 < r.targetLevel.toNat ∨ 16 < r.feedbackWeight.toNat
          ∨ r.slewLimit.toNat < 1 ∨ 192 < r.slewLimit.toNat ∨ r.smoothingWeight.toNat < 1 ∨ 16 < r.smoothingWeight.toNat
          ∨ 32 < r.deadband.toNat))
    ∧ (3 < r.startKind.toNat → putPhase r = .inl .badStartKind)
    ∧ (r.startKind.toNat ≤ 3 → 1 < r.syncMode.toNat → putPhase r = .inl .badSyncMode)
    ∧ (r.startKind.toNat ≤ 3 → r.syncMode.toNat ≤ 1 → r.headSet.toNat % 16 = 0 → putPhase r = .inl .emptyHeads)
    ∧ (r.startKind.toNat ≤ 3 → r.syncMode.toNat ≤ 1 → r.headSet.toNat % 16 ≠ 0 →
        ∃ (ph : Phase) (clamped : Bool), putPhase r = .inr (ph, clamped))

/-- LADDER_PUT by the holder: the first `count` slots become the shadow ladder, each span brought into 1..1920; a count
outside 1..8 and an unknown control among the used slots are INVALID with no effect. -/
def Obligations.LadderPutStores : Prop :=
  ∀ (s : State) (p : Port) (tag count : Byte) (slots : List RawSegment), slots.length = 8 → s.Accepts .ladderPut p →
    s.flags.i0 = some p → s.plan.swapPending = none →
    (count.toNat = 0 ∨ 8 < count.toNat → exec (.ladderPut p tag count slots) s =
      .next (s.answer p .ladderPut tag .invalid [0x25#8]))
    ∧ (1 ≤ count.toNat → count.toNat ≤ 8 → (∃ g ∈ slots.take count.toNat, 2 < g.control.toNat) →
        exec (.ladderPut p tag count slots) s = .next (s.answer p .ladderPut tag .invalid [0x24#8]))
    ∧ (1 ≤ count.toNat → count.toNat ≤ 8 → (∀ g ∈ slots.take count.toNat, g.control.toNat ≤ 2) →
        ∃ (segments : List Segment) (st : Status),
          exec (.ladderPut p tag count slots) s = .next (({ s with
            plan := s.plan.setShadow ⟨s.plan.shadowBank.phases, segments⟩ } : State).answer p .ladderPut tag st [])
          ∧ segments.length = count.toNat
          ∧ (∀ (n : Nat) (g : RawSegment), (slots.take count.toNat)[n]? = some g →
              ∃ c : Control, c.code = g.control.toNat ∧ segments[n]? = some ⟨c, max 1 (min g.span.toNat 1920)⟩)
          ∧ (st = .ok ↔ ∀ g ∈ slots.take count.toNat, 1 ≤ g.span.toNat ∧ g.span.toNat ≤ 1920)
          ∧ (st = .ok ∨ st = .clamped))

/-- COMMIT of a valid shadow bank by the holder: with no frame in flight the banks exchange roles and the entry phase is
entered at once; with one in flight the swap becomes pending and nothing else changes. A bank that fails is INVALID with its
reason, sent as its code; which reason it is stands in CommitChecksThePlan. -/
def Obligations.CommitTakesEffect : Prop :=
  [Reason.emptyPlan, .badEntry, .limitChain, .ladderTotal, .ladderShutter, .noShutter, .emptyLadder].map Reason.code
    = [1#8, 2#8, 3#8, 4#8, 5#8, 6#8, 7#8]
  ∧ ∀ (s : State) (p : Port) (tag entry : Byte), s.Accepts .commit p → s.flags.i0 = some p → s.plan.swapPending = none →
    (∀ reason : Reason, commitFault s.plan.shadowBank entry.toNat = some reason →
      exec (.commit p tag entry) s = .next (s.answer p .commit tag .invalid [reason.code]))
    ∧ (commitFault s.plan.shadowBank entry.toNat = none → s.frame.isSome = true →
        exec (.commit p tag entry) s = .next
          (({ s with plan := { s.plan with swapPending := some entry.toNat } } : State).answer p .commit tag .ok
            (leBytes 1 s.plan.active.other.code ++ [1#8])))
    ∧ (commitFault s.plan.shadowBank entry.toNat = none → s.frame = none →
        ∃ t : State, exec (.commit p tag entry) s = .next t
          ∧ t.plan = { s.plan with
              active := s.plan.active.other
              index := entry.toNat
              entry := (s.plan.entry + 1) % 4294967296
              remaining := (s.plan.shadowBank.phases.getD entry.toNat defaultPhase).frameLimit
              confirm := 0 }
          ∧ (∀ st : Station, hasEvent (t.stations.get st).flags .planSwapped = true
              ∧ hasEvent (t.stations.get st).flags .phaseChanged = true)
          ∧ (t.ports.get p).queue = (s.ports.get p).queue ++
              [⟨[0xBC#8, tag, 0#8] ++ leBytes 1 s.plan.active.other.code ++ [0#8], none⟩])

/-- Commit validation passes exactly the plans of the seven checks, and a plan that fails one is refused with the reason of
the first check it fails: EMPTY_PLAN, BAD_ENTRY, LIMIT_CHAIN, EMPTY_LADDER, NO_SHUTTER, LADDER_SHUTTER, LADDER_TOTAL. -/
def Obligations.CommitChecksThePlan : Prop :=
  ∀ (b : Bank) (entry shutter total : Nat) (chain hasShutter : Prop),
    (chain ↔ ∀ (i : Nat) (ph : Phase), b.phases[i]? = some ph → ph.start = .afterLimit →
        ∃ q : Phase, b.phases[(i + b.phases.length - 1) % b.phases.length]? = some q ∧ q.frameLimit.isSome = true) →
    (hasShutter ↔ ∃ g ∈ b.ladder, g.control = .shutter) →
    shutter = ((b.ladder.filter (fun g => g.control == .shutter)).map (·.span)).sum →
    total = (b.ladder.map (·.span)).sum →
    (commitFault b entry = none ↔ b.phases ≠ [] ∧ entry < b.phases.length ∧ chain ∧ b.ladder ≠ [] ∧ hasShutter
      ∧ shutter ≤ 1408 ∧ total ≤ 1920)
    ∧ (commitFault b entry = some .emptyPlan ↔ b.phases = [])
    ∧ (commitFault b entry = some .badEntry ↔ b.phases ≠ [] ∧ b.phases.length ≤ entry)
    ∧ (commitFault b entry = some .limitChain ↔ b.phases ≠ [] ∧ entry < b.phases.length ∧ ¬chain)
    ∧ (commitFault b entry = some .emptyLadder ↔ b.phases ≠ [] ∧ entry < b.phases.length ∧ chain ∧ b.ladder = [])
    ∧ (commitFault b entry = some .noShutter ↔ b.phases ≠ [] ∧ entry < b.phases.length ∧ chain ∧ b.ladder ≠ []
      ∧ ¬hasShutter)
    ∧ (commitFault b entry = some .ladderShutter ↔ b.phases ≠ [] ∧ entry < b.phases.length ∧ chain ∧ b.ladder ≠ []
      ∧ hasShutter ∧ 1408 < shutter)
    ∧ (commitFault b entry = some .ladderTotal ↔ b.phases ≠ [] ∧ entry < b.phases.length ∧ chain ∧ b.ladder ≠ []
      ∧ hasShutter ∧ shutter ≤ 1408 ∧ 1920 < total)

/-- PLAN_READ answers with the summary, and with the item where the selector and the item name one; it changes nothing.
A selector of no bank gives the summary of the active bank. The summary is, in this order, bank read, phase and segment
counts, active bank and index, entry number, remaining-frame count, phase condition, confirm counter and the entry of a
pending swap; a field that may be absent stands behind its presence byte. A phase is the 26 bytes of its layout, its absent
fields 0, and a ladder its count and eight slots. -/
def Obligations.PlanReadReports : Prop :=
  (∀ (s : State) (p : Port) (tag selector item : Byte) (which : BankId), s.Accepts .planRead p →
     (1 < selector.toNat → exec (.planRead p tag selector item) s =
       .next (s.answer p .planRead tag .badIndex (s.planSummary s.plan.active)))
     ∧ ((selector = 0#8 ∧ which = s.plan.active) ∨ (selector = 1#8 ∧ which = s.plan.active.other) →
         (item = 0xFF#8 → exec (.planRead p tag selector item) s =
           .next (s.answer p .planRead tag .ok (s.planSummary which ++ ladderBytes (s.plan.bank which).ladder)))
         ∧ (∀ ph : Phase, item.toNat < 16 → (s.plan.bank which).phases[item.toNat]? = some ph →
             exec (.planRead p tag selector item) s =
               .next (s.answer p .planRead tag .ok (s.planSummary which ++ phaseBytes ph)))
         ∧ (item ≠ 0xFF#8 → 16 ≤ item.toNat ∨ (s.plan.bank which).phases.length ≤ item.toNat →
             exec (.planRead p tag selector item) s =
               .next (s.answer p .planRead tag .badIndex (s.planSummary which)))))
  ∧ (∀ (s : State) (which : BankId), s.planSummary which =
      [if which = .a then 0#8 else 1#8] ++ leBytes 1 (s.plan.bank which).phases.length
        ++ leBytes 1 (s.plan.bank which).ladder.length ++ [if s.plan.active = .a then 0#8 else 1#8] ++ leBytes 1 s.plan.index
        ++ leBytes 4 s.plan.entry ++ optField 2 (s.plan.remaining.map Int.ofNat)
        ++ [if s.plan.remaining = some 0 then 1#8 else 0#8] ++ leBytes 1 s.plan.confirm
        ++ optField 1 (s.plan.swapPending.map Int.ofNat))
  ∧ (∀ (n : Nat) (v : Int), optField n (some v) = 1#8 :: leBytes n v ∧ optField n none = 0#8 :: List.replicate n 0#8)
  ∧ (∀ (ph : Phase) (b : Byte), b = (if ph.frameLimit.isSome then 1#8 else 0#8) →
      (phaseBytes ph).length = 26
      ∧ (phaseBytes ph).drop 9 = leBytes 4 ph.interval ++ leBytes 2 (ph.frameLimit.getD 0 : Nat) ++ [headSetByte ph.heads]
          ++ [if ph.sync = .free then 0#8 else 1#8] ++ leBytes 1 ph.armWindow ++ leBytes 2 ph.compensation
          ++ leBytes 2 ph.targetLevel ++ leBytes 1 ph.feedbackWeight ++ leBytes 1 ph.slewLimit
          ++ leBytes 1 ph.smoothingWeight ++ leBytes 1 ph.deadband
      ∧ (∀ time : Nat, ph.start = .atTime time →
          (phaseBytes ph).take 9 = [0#8, b ||| 2#8] ++ leBytes 4 time ++ [0#8, 0#8, 0#8])
      ∧ (∀ (v : Int) (c : Nat), ph.start = .onDarker v c →
          (phaseBytes ph).take 9 = [1#8, b ||| 12#8, 0#8, 0#8, 0#8, 0#8] ++ leBytes 2 v ++ leBytes 1 c)
      ∧ (∀ (v : Int) (c : Nat), ph.start = .onBrighter v c →
          (phaseBytes ph).take 9 = [2#8, b ||| 12#8, 0#8, 0#8, 0#8, 0#8] ++ leBytes 2 v ++ leBytes 1 c)
      ∧ (ph.start = .afterLimit → (phaseBytes ph).take 9 = [3#8, b, 0#8, 0#8, 0#8, 0#8, 0#8, 0#8, 0#8]))
  ∧ (∀ (g : HeadSet) (h : Head), (headSetByte g).getLsbD (headCode h) = g.get h ∧ (headSetByte g).toNat < 16)
  ∧ (∀ l : List Segment, l.length ≤ 8 → ladderBytes l = leBytes 1 l.length
      ++ (l.map (fun g => leBytes 1 g.control.code ++ leBytes 2 g.span)).flatten ++ List.replicate (3 * (8 - l.length)) 0#8)

/-! ## The journal -/

/-- JOURNAL_READ answers with the summary and up to two records from the starting sequence on, GAP from the oldest on when
the start is no longer held; it changes nothing. JOURNAL_ACK moves the shared mark forward and never beyond the newest
record, and the fill marker is judged on the count that results. The summary is oldest and newest sequence, presence, next
sequence, mark and unacknowledged count, and a record its 25 bytes and 15 for each head entry. That a bad count is BAD_INDEX
before the ring is looked at is the model's reading (log entry 17). -/
def Obligations.JournalIsReadAndAcknowledged : Prop :=
  (∀ (s : State) (p : Port) (tag count : Byte) (start : BitVec 32), s.Accepts .journalRead p →
     (count.toNat = 0 ∨ 2 < count.toNat → exec (.journalRead p tag start count) s =
       .next (s.answer p .journalRead tag .badIndex (s.journal.summary ++ [0#8])))
     ∧ (1 ≤ count.toNat → count.toNat ≤ 2 →
         s.journal.ring = [] ∨ (s.JournalKept ∧ ∀ r ∈ s.journal.ring, r.sequence < start.toNat) →
         exec (.journalRead p tag start count) s = .next (s.answer p .journalRead tag .ok (s.journal.summary ++ [0#8])))
     ∧ (∀ (r : JournalRecord) (rest : List JournalRecord) (n : Nat), s.journal.ring = r :: rest → s.JournalKept →
         1 ≤ count.toNat → count.toNat ≤ 2 → n = start.toNat - r.sequence → n ≤ rest.length →
         ∃ records : List JournalRecord, records = ((r :: rest).drop n).take count.toNat
           ∧ exec (.journalRead p tag start count) s = .next (s.answer p .journalRead tag
               (if start.toNat < r.sequence then .gap else .ok)
               (s.journal.summary ++ leBytes 1 records.length ++ (records.map recordBytes).flatten))))
  ∧ (∀ (s : State) (p : Port) (tag : Byte) (sequence : BitVec 32), s.Accepts .journalAck p →
     ∃ (t : State) (st : Status),
       exec (.journalAck p tag sequence) s = .next (t.answer p .journalAck tag st t.journal.summary)
       ∧ t = { s with journal := t.journal, stations := t.stations }
       ∧ t.journal.ring = s.journal.ring ∧ t.journal.next = s.journal.next
       ∧ (s.journal.ring = [] → t.journal.ack = s.journal.ack ∧ st = .clamped)
       ∧ (∀ n : Nat, s.journal.newest = some n →
           (n < sequence.toNat → t.journal.ack = some n ∧ st = .clamped)
           ∧ (sequence.toNat ≤ n → markBelow s.journal.ack sequence.toNat → t.journal.ack = some sequence.toNat ∧ st = .ok)
           ∧ (sequence.toNat ≤ n → ¬markBelow s.journal.ack sequence.toNat → t.journal.ack = s.journal.ack ∧ st = .ok))
       ∧ (t.journal.fillRaised = true ↔ s.settings.fillLevel ≤ t.journal.unacknowledged)
       ∧ (s.journal.fillRaised = false → t.journal.fillRaised = true →
           ∀ x : Station, (t.stations.get x).flags = (s.stations.get x).flags ||| 2#10)
       ∧ (s.journal.fillRaised = true ∨ t.journal.fillRaised = false → t.stations = s.stations))
  ∧ (∀ j : Journal, j.summary = leBytes 4 (j.oldest.getD 0 : Nat) ++ leBytes 4 (j.newest.getD 0 : Nat)
        ++ [(if j.ring = [] then 0#8 else 1#8) ||| (if j.ack.isSome then 2#8 else 0#8)] ++ leBytes 4 j.next
        ++ leBytes 4 (j.ack.getD 0 : Nat) ++ leBytes 2 j.unacknowledged
      ∧ (j.ring = [] → j.oldest = none ∧ j.newest = none)
      ∧ (∀ (r : JournalRecord) (rest : List JournalRecord), j.ring = r :: rest → j.oldest = some r.sequence)
      ∧ (∀ (r : JournalRecord) (rest : List JournalRecord), j.ring = rest ++ [r] → j.newest = some r.sequence)
      ∧ (j.ack = none → j.unacknowledged = j.ring.length)
      ∧ (∀ m : Nat, j.ack = some m → j.unacknowledged = (j.ring.filter (fun r => decide (m < r.sequence))).length))
  ∧ (∀ r : JournalRecord, recordBytes r = leBytes 4 r.sequence ++ leBytes 4 r.openTime ++ leBytes 4 r.due
      ++ [if r.bank = .a then 0#8 else 1#8] ++ leBytes 1 r.phaseIndex ++ leBytes 1 r.outcome.code
      ++ [(if r.forced then 1#8 else 0#8) ||| (if r.skipped = 0 then 0#8 else 2#8) ||| (if r.meter.isSome then 4#8 else 0#8)
          ||| BitVec.ofNat 8 (r.tierAtOpen.code * 8)]
      ++ leBytes 2 r.skipped ++ leBytes 2 ((r.meter.map (·.1)).getD 0) ++ leBytes 1 ((r.meter.map (·.2.code)).getD 0 : Nat)
      ++ leBytes 1 r.tierAtClose.code ++ leBytes 2 r.battery
      ++ leBytes 1 (([Head.h0, .h1, .h2, .h3].filter (fun h => (r.heads.get h).isSome)).length : Nat)
      ++ ([Head.h0, .h1, .h2, .h3].map (fun h => (r.heads.get h).elim [] (fun e =>
          leBytes 1 (headCode h) ++ leBytes 1 e.outcome.code
            ++ [(if e.ticket.isSome then 1#8 else 0#8) ||| (if e.level.isSome then 2#8 else 0#8)]
            ++ leBytes 4 ((e.ticket.map (·.exposure)).getD 0 : Nat) ++ leBytes 2 ((e.ticket.map (·.gain)).getD 0 : Nat)
            ++ leBytes 2 ((e.ticket.map (·.aperture)).getD 0 : Nat) ++ leBytes 2 ((e.ticket.map (·.need)).getD 0 : Nat)
            ++ leBytes 2 (e.level.getD 0 : Nat)))).flatten)

/-- The append of a closed frame: the oldest of 256 records gives way, the new record is the newest, and each station gets
FRAME_CLOSED, or in PUSH mode with a place in its queue a JOURNAL_PUSH. The close it belongs to: the outcome by the table,
Energy Monitor, Plan Controller and Frame Journal in that order, no frame, and then the anchor D and the due time from it;
a forced frame, and one during which SEQ_RESUME was taken, leave the anchor. The Plan Controller's part: a frame that counts
takes one of the remaining frames, an AFTER_LIMIT successor is entered at the last one, and a pending swap goes before it. -/
def Obligations.AppendDeliversToEachStation : Prop :=
  (∀ (s : State) (f : Frame) (st : Station), ∃ (t : State) (r : JournalRecord), s.journalClose f = t
    ∧ t.journal.ring = (if 256 ≤ s.journal.ring.length then s.journal.ring.drop 1 else s.journal.ring) ++ [r]
    ∧ t.journal.next = s.journal.next ∧ t.journal.ack = s.journal.ack
    ∧ r.sequence = f.sequence ∧ r.openTime = f.openTime ∧ (r.due : Int) = f.due % 4294967296 ∧ r.forced = f.forced
    ∧ r.skipped = f.skipped ∧ r.tierAtOpen = f.tierAtOpen ∧ r.tierAtClose = s.energy.effective
    ∧ r.battery = s.energy.reading
    ∧ (∀ h : Head, (r.heads.get h).isSome = (f.members.get h).isSome)
    ∧ (s.settings.push.get st = .push → s.hasPlace (stationPort st) = true →
        (t.ports.get (stationPort st)).queue = (s.ports.get (stationPort st)).queue ++
          [⟨[0xE1#8, 0#8] ++ leBytes 2 t.journal.unacknowledged ++ recordBytes r, none⟩])
    ∧ (s.settings.push.get st = .flag ∨ s.hasPlace (stationPort st) = false →
        hasEvent (t.stations.get st).flags .frameClosed = true ∧ t.ports.get (stationPort st) = s.ports.get (stationPort st)))
  ∧ (∀ (s : State) (f : Frame), ∃ (g : Frame) (o : FrameOutcome) (t u : State), f.Concludes o
    ∧ g = { f with outcome := some o }
    ∧ t = { ((({ s with frame := some g, armTimer := none } : State).energyClose).planClose g).journalClose g with
        frame := none }
    ∧ (f.forced = true ∨ f.resumedInFlight = true → u = t)
    ∧ (f.forced = false → f.resumedInFlight = false →
        u = { t with sched := { t.sched with anchor := some ⟨f.due, .frame⟩, lastDue := none } })
    ∧ (u.computeDue.openReached = false → s.closeFrame f = u.computeDue)
    ∧ (∀ d : Int, u.computeDue.openReached = true → u.computeDue.sched.due = some d →
        s.closeFrame f = u.computeDue.openScheduled d))
  ∧ (∀ (s : State) (f : Frame) (o : FrameOutcome) (n : Nat), f.outcome = some o →
    (s.plan.swapPending = none → s.plan.Counts f o → s.plan.remaining = some (n + 1) →
      (n = 0 → s.sched.run = .running → s.plan.successor.start = .afterLimit →
        (s.planClose f).plan = { s.plan with
          index := s.plan.successorIndex, entry := (s.plan.entry + 1) % 4294967296
          remaining := s.plan.successor.frameLimit, confirm := 0 }
        ∧ ∀ st : Station, hasEvent ((s.planClose f).stations.get st).flags .phaseChanged = true)
      ∧ (0 < n ∨ s.sched.run = .held ∨ s.plan.successor.start ≠ .afterLimit →
        s.planClose f = { s with plan := { s.plan with remaining := some n } }))
    ∧ (s.plan.swapPending = none → ¬s.plan.Counts f o ∨ s.plan.remaining = none ∨ s.plan.remaining = some 0 →
        s.planClose f = s)
    ∧ (∀ e : Nat, s.plan.swapPending = some e →
        (s.planClose f).plan.active = s.plan.active.other ∧ (s.planClose f).plan.index = e
        ∧ (s.planClose f).plan.entry = (s.plan.entry + 1) % 4294967296 ∧ (s.planClose f).plan.swapPending = none
        ∧ ∀ st : Station, hasEvent ((s.planClose f).stations.get st).flags .planSwapped = true
            ∧ hasEvent ((s.planClose f).stations.get st).flags .phaseChanged = true))

/-! ## Heads and frames -/

/-- HELLO of a woken member: the ticket is computed and written to the ramp record and the member entry, the head enters
TICKETED with its ready timer under FREE alone, and the reply carries the ticket. -/
def Obligations.HelloIsTicketed : Prop :=
  ∀ (s : State) (h : Head) (tag : Byte) (f : Frame) (m : Member) (x : TicketFigures),
    s.runs = true → s.hasPlace (headPort h) = true → s.frame = some f → f.members.get h = some m → m.outcome = none →
    (s.heads.get h).state = .waking → s.ticketStands f h = false → x = (s.ticketInputs f h).compute →
    ∃ t : State, exec (.hello (headPort h) tag) s = .next t
      ∧ t = { s with ports := t.ports, heads := t.heads, ramps := t.ramps, frame := t.frame }
      ∧ t.heads = s.heads.set h { s.heads.get h with
          state := .ticketed, hello := none, result := none, grace := none, standby := none
          ready := if f.phase.sync = .free then some ((s.settings.head.get h).readyTimeout * 1000) else none }
      ∧ t.ramps = s.ramps.set h { s.ramps.get h with
          need := some x.need, lastTicket := some ⟨f.sequence, x.exposure, x.gain, x.aperture, x.flags⟩ }
      ∧ (∃ g : Frame, t.frame = some g ∧ g = { f with members := g.members, meter := g.meter }
          ∧ g.members = f.members.set h (some { m with
              ticket := some ⟨x.exposure, x.gain, x.aperture, x.need, (s.settings.head.get h).triggerMode, x.flags⟩ })
          ∧ ((∀ k : Head, ∀ n : Member, f.members.get k = some n → n.ticket = none) →
              g.meter = s.meter.latest.map (fun r => (r.bv, r.state)))
          ∧ ((∃ k : Head, ∃ n : Member, f.members.get k = some n ∧ n.ticket.isSome = true) → g.meter = f.meter))
      ∧ t.ports = (s.answer (headPort h) .hello tag .ok
          (leBytes 4 f.sequence ++ leBytes 1 (headCode h) ++ leBytes 4 f.due ++ leBytes 4 x.exposure ++ leBytes 2 x.gain
            ++ leBytes 2 x.aperture ++ leBytes 2 x.need ++ leBytes 2 f.phase.targetLevel
            ++ leBytes 1 (s.settings.head.get h).triggerMode.code ++ [ticketFlagsByte x.flags])).ports

/-- HELLO, READY and RESULT of a member whose state does not call for them, of a member already decided, or with no part in a
frame: a reply and no other effect. A HELLO in TICKETED or ARMED has the ticket issued again, a READY in ARMED is answered as
the first one was, and a repeated RESULT of a DONE member OK. That a ticket issued again after a RAMP_RESEED carries the need
of the member entry is the model's reading (log entry 9). That with no frame in flight HELLO and READY are answered IDLE also
after an expiry whose rail off has closed the frame, where R108 and R111 name LATE, is its choice (log entry 37). -/
def Obligations.HeadMessagesOutOfPlace : Prop :=
  ∀ (s : State) (h : Head) (tag flags : Byte) (q : BitVec 32) (level free : BitVec 16), s.runs = true →
    s.hasPlace (headPort h) = true →
    (s.member h = none →
      exec (.hello (headPort h) tag) s = .next (s.answer (headPort h) .hello tag .idle [])
      ∧ exec (.ready (headPort h) tag q) s = .next (s.answer (headPort h) .ready tag .idle [])
      ∧ exec (.result (headPort h) tag q level free flags) s = .next (s.answer (headPort h) .result tag .late []))
    ∧ (∀ (f : Frame) (m : Member) (o : EntryOutcome), s.frame = some f → f.members.get h = some m → m.outcome = some o →
      exec (.hello (headPort h) tag) s = .next (s.answer (headPort h) .hello tag .late [])
      ∧ exec (.ready (headPort h) tag q) s = .next (s.answer (headPort h) .ready tag .late [])
      ∧ (o ≠ .done ∨ q.toNat ≠ f.sequence → exec (.result (headPort h) tag q level free flags) s =
          .next (s.answer (headPort h) .result tag .late []))
      ∧ (o = .done → q.toNat = f.sequence → exec (.result (headPort h) tag q level free flags) s =
          .next (s.answer (headPort h) .result tag .ok [0#8])))
    ∧ (s.undecided h = true → (s.heads.get h).state = .off ∨ (s.heads.get h).state = .standby →
      exec (.hello (headPort h) tag) s = .next (s.answer (headPort h) .hello tag .idle [])
      ∧ exec (.ready (headPort h) tag q) s = .next (s.answer (headPort h) .ready tag .notExpected [])
      ∧ exec (.result (headPort h) tag q level free flags) s = .next (s.answer (headPort h) .result tag .notExpected []))
    ∧ (s.undecided h = true → (s.heads.get h).state = .exposing ∨ (s.heads.get h).state = .reporting →
      exec (.hello (headPort h) tag) s = .next (s.answer (headPort h) .hello tag .notExpected [])
      ∧ exec (.ready (headPort h) tag q) s = .next (s.answer (headPort h) .ready tag .notExpected []))
    ∧ (s.undecided h = true →
        (s.heads.get h).state = .waking ∨ (s.heads.get h).state = .ticketed ∨ (s.heads.get h).state = .armed →
      exec (.result (headPort h) tag q level free flags) s = .next (s.answer (headPort h) .result tag .notExpected []))
    ∧ (s.undecided h = true → (s.heads.get h).state = .waking →
      exec (.ready (headPort h) tag q) s = .next (s.answer (headPort h) .ready tag .notExpected []))
    ∧ (∀ (f : Frame) (m : Member), s.frame = some f → f.members.get h = some m → m.outcome = none →
      (q.toNat ≠ f.sequence → (s.heads.get h).state = .ticketed ∨ (s.heads.get h).state = .armed →
        exec (.ready (headPort h) tag q) s = .next (s.answer (headPort h) .ready tag .notExpected []))
      ∧ (q.toNat ≠ f.sequence → (s.heads.get h).state = .exposing ∨ (s.heads.get h).state = .reporting →
        exec (.result (headPort h) tag q level free flags) s =
          .next (s.answer (headPort h) .result tag .notExpected []))
      ∧ (q.toNat = f.sequence → (s.heads.get h).state = .armed →
        exec (.ready (headPort h) tag q) s = .next (s.answer (headPort h) .ready tag .ok [3#8, 0#8]))
      ∧ (∀ (k : TicketPart) (y : TicketSummary), (s.heads.get h).state = .ticketed ∨ (s.heads.get h).state = .armed →
        m.ticket = some k → (s.ramps.get h).lastTicket = some y → y.sequence = f.sequence →
        exec (.hello (headPort h) tag) s = .next (s.answer (headPort h) .hello tag .ok
          (leBytes 4 f.sequence ++ leBytes 1 (headCode h) ++ leBytes 4 f.due ++ leBytes 4 y.exposure ++ leBytes 2 y.gain
            ++ leBytes 2 y.aperture ++ leBytes 2 ((s.ramps.get h).need.getD k.need) ++ leBytes 2 f.phase.targetLevel
            ++ leBytes 1 (s.settings.head.get h).triggerMode.code ++ [ticketFlagsByte y.flags]))))

/-- READY of a ticketed member with the frame's sequence: before D, and in WINDOW while another member is not yet ARMED, the
head waits ARMED; after D it fires; in WINDOW the READY that completes the arm set fires every member and stops the arm
timer. D reached at an advance: a FREE frame fires its ARMED members; a LOCKED one fires all of them when every member is
ARMED, and otherwise waits in WINDOW for its arm window, or with an arm window of 0 is abandoned. A member whose entry has no
ticket part fires too, its duration free in its range (log entry 36). That the advance completes the running second on every
timer is the model's choice (log entry 4), and so, where it is midnight, is what the rollover leaves (log entries 6 and 41).
-/
def Obligations.ReadyArmsOrFires : Prop :=
  (∀ (s : State) (h : Head) (tag : Byte) (q : BitVec 32) (f : Frame) (m : Member) (armed : HeadSeq),
    s.runs = true → s.hasPlace (headPort h) = true → s.frame = some f → f.members.get h = some m → m.outcome = none →
    (s.heads.get h).state = .ticketed → q.toNat = f.sequence →
    armed = { s.heads.get h with
      state := .armed, hello := none, ready := none, result := none, grace := none, standby := none } →
    (f.sync = .beforeD ∨ f.sync = .waiting
        ∨ (f.sync = .window ∧ ∃ g : Head, g ≠ h ∧ (f.members.get g).isSome = true ∧ (s.heads.get g).state ≠ .armed) →
      exec (.ready (headPort h) tag q) s = .next
        (({ s with heads := s.heads.set h armed } : State).answer (headPort h) .ready tag .ok [3#8, 0#8]))
    ∧ (∀ k : TicketPart, f.sync = .afterD → m.ticket = some k →
      exec (.ready (headPort h) tag q) s = .next (({ s with
          heads := s.heads.set h { armed with state := .exposing }
          triggers := s.triggers.set h {
            asserted := true, level := decide ((s.settings.head.get h).polarity = .activeHigh), bulb := some k.exposure
            pulse := if k.mode = .timed then some (s.settings.head.get h).pulseWidth else none } } : State).answer
        (headPort h) .ready tag .ok [4#8, 1#8]))
    ∧ (f.sync = .afterD → m.ticket = none → ∃ (d : Nat) (pulse : Option Nat), 10 ≤ d ∧ d ≤ 4194304000
      ∧ (pulse = none ∨ pulse = some (s.settings.head.get h).pulseWidth)
      ∧ exec (.ready (headPort h) tag q) s = .next (({ s with
          heads := s.heads.set h { armed with state := .exposing }
          triggers := s.triggers.set h {
            asserted := true, level := decide ((s.settings.head.get h).polarity = .activeHigh), bulb := some d
            pulse := pulse } } : State).answer (headPort h) .ready tag .ok [4#8, 1#8]))
    ∧ (f.sync = .window →
      (∀ g : Head, g ≠ h → (f.members.get g).isSome = true → (s.heads.get g).state = .armed) →
      ∃ t : State, exec (.ready (headPort h) tag q) s = .next t ∧ t.armTimer = none
        ∧ t.frame = some { f with sync := .fired }
        ∧ (∀ (g : Head) (n : Member), f.members.get g = some n →
            (t.heads.get g).state = .exposing ∧ (t.triggers.get g).asserted = true ∧ (t.triggers.get g).bulb.isSome = true
            ∧ (∀ k : TicketPart, n.ticket = some k → (t.triggers.get g).bulb = some k.exposure))
        ∧ (∀ g : Head, f.members.get g = none → t.heads.get g = s.heads.get g ∧ t.triggers.get g = s.triggers.get g)
        ∧ (t.ports.get (headPort h)).queue = (s.ports.get (headPort h)).queue ++ [⟨[0x91#8, tag, 0#8, 4#8, 1#8], none⟩]))
  ∧ (∀ (s u : State) (f : Frame) (n : Int), s.AdvanceRests → u = s.advanced → n = u.time.count →
    s.NoEntryAhead → u.frame = some f → u.frameFinished = false → f.due ≤ n →
    (∀ (k : Head) (m : Member), f.members.get k = some m → m.reached = true ∨ n < m.wakeTime) →
    (f.sync = .beforeD → ∃ t : State, exec .secondsCountAdvance s = .next t
      ∧ t = { u with heads := t.heads, triggers := t.triggers, frame := some { f with sync := .afterD } }
      ∧ ∀ h : Head,
        (∀ m : Member, f.members.get h = some m → (u.heads.get h).state = .armed →
          (t.heads.get h).state = .exposing ∧ (t.triggers.get h).asserted = true ∧ (t.triggers.get h).bulb.isSome = true
          ∧ (∀ k : TicketPart, m.ticket = some k → (t.triggers.get h).bulb = some k.exposure))
        ∧ (f.members.get h = none ∨ (u.heads.get h).state ≠ .armed →
          t.heads.get h = u.heads.get h ∧ t.triggers.get h = u.triggers.get h))
    ∧ (f.sync = .waiting → (∀ h : Head, (f.members.get h).isSome = true → (u.heads.get h).state = .armed) →
      ∃ t : State, exec .secondsCountAdvance s = .next t
      ∧ t = { u with
        heads := t.heads, triggers := t.triggers, frame := some { f with sync := .fired }, armTimer := none }
      ∧ ∀ (h : Head) (m : Member), f.members.get h = some m →
          (t.heads.get h).state = .exposing ∧ (t.triggers.get h).asserted = true ∧ (t.triggers.get h).bulb.isSome = true
          ∧ (∀ k : TicketPart, m.ticket = some k → (t.triggers.get h).bulb = some k.exposure))
    ∧ (f.sync = .waiting → (∃ h : Head, (f.members.get h).isSome = true ∧ (u.heads.get h).state ≠ .armed) →
      (0 < f.phase.armWindow → exec .secondsCountAdvance s = .next { u with
        frame := some { f with sync := .window }, armTimer := some (f.phase.armWindow * 1000) })
      ∧ (∀ w : Head, f.phase.armWindow = 0 → u.undecided w = true →
        (u.heads.get w).state = .waking ∨ (u.heads.get w).state = .ticketed ∨ (u.heads.get w).state = .armed →
        ∃ (t : State) (g : Frame), exec .secondsCountAdvance s = .next t ∧ t.frame = some g ∧ g.sync = .abandoned
          ∧ t.armTimer = none ∧ t.triggers = u.triggers
          ∧ ∀ h : Head,
            (u.undecided h = true → (u.heads.get h).state = .waking ∨ (u.heads.get h).state = .ticketed →
              t.outcomeOf h = some .noReady ∧ (t.heads.get h).state = .closing)
            ∧ (u.undecided h = true → (u.heads.get h).state = .armed →
              t.outcomeOf h = some .abandoned ∧ (t.heads.get h).state = .closing)
            ∧ (u.undecided h = true → (u.heads.get h).state = .off ∨ (u.heads.get h).state = .standby →
              t.outcomeOf h = some .abandoned)
            ∧ (u.undecided h = false → t.outcomeOf h = u.outcomeOf h))))

/-- RESULT with the frame's sequence in EXPOSING or REPORTING: DONE, level stored, correction moved within its limit, miss
count 0, marks set, CLOSING with 2 s of grace, bulb timer stopped in EXPOSING and the trigger released there in BULB mode.
-/
def Obligations.ResultIsDelivered : Prop :=
  ∀ (s : State) (h : Head) (tag flags : Byte) (q : BitVec 32) (level free : BitVec 16) (f : Frame) (m : Member)
      (stored : Nat),
    s.runs = true → s.hasPlace (headPort h) = true → s.frame = some f → f.members.get h = some m → m.outcome = none →
    (s.heads.get h).state = .exposing ∨ (s.heads.get h).state = .reporting → q.toNat = f.sequence →
    stored = min level.toNat 1023 →
    ∃ t : State, exec (.result (headPort h) tag q level free flags) s = .next t
      ∧ t = { s with ports := t.ports, heads := t.heads, ramps := t.ramps, frame := t.frame, triggers := t.triggers }
      ∧ t.ports = (s.answer (headPort h) .result tag .ok [0#8]).ports
      ∧ t.frame = some { f with members := f.members.set h (some { m with level := some stored, outcome := some .done }) }
      ∧ t.heads = s.heads.set h { s.heads.get h with
          state := .closing, hello := none, ready := none, result := none, standby := none, grace := some 2000, miss := 0
          storageMark := (s.heads.get h).storageMark || decide (free.toNat = 0)
          keepOff := (s.heads.get h).keepOff || flags.getLsbD 0 }
      ∧ t.ramps = s.ramps.set h { s.ramps.get h with
          lastLevel := some stored
          correction := if (s.ramps.get h).need.isSome = true ∧ f.phase.feedbackWeight ≠ 0 then
              clampInt (-s.settings.correctionLimit) s.settings.correctionLimit ((s.ramps.get h).correction
                + (((log64 f.phase.targetLevel : Int) - log64 (max stored 1)) * f.phase.feedbackWeight).tdiv 16)
            else (s.ramps.get h).correction }
      ∧ (∀ g : Head, g ≠ h → t.triggers.get g = s.triggers.get g)
      ∧ ((s.heads.get h).state = .reporting → t.triggers = s.triggers)
      ∧ ((s.heads.get h).state = .exposing → (t.triggers.get h).bulb = none
          ∧ (∀ k : TicketPart, m.ticket = some k →
              (k.mode = .bulb → (t.triggers.get h).asserted = false)
              ∧ (k.mode = .timed → (t.triggers.get h).asserted = (s.triggers.get h).asserted
                  ∧ (t.triggers.get h).pulse = (s.triggers.get h).pulse)))

/-- The hello, ready or result timer of an undecided member runs out: the outcome is set, a miss is counted, and the head
goes OFF with its trigger inactive. While another member holds the frame open no other member is touched and the on-time is
accounted; a miss that reaches the limit excludes the head and raises HEAD_EXCLUDED. As the last decision it closes the frame,
RUNNING or HELD, by the close of AppendDeliversToEachStation; of a HELD part outcome, record, count, swap and anchor are stated
outright. The voltage tier is not HALT, which a part in that tier's own state never meets. -/
def Obligations.TimeoutsFailTheMember : Prop :=
  ∀ (s : State) (h : Head) (i : Instr) (o : EntryOutcome), s.runs = true → s.undecided h = true →
    s.energy.voltageTier ≠ .halt → (s.heads.get h).state ≠ .off → (s.heads.get h).state ≠ .standby →
    (i = .helloTimerExpiry h ∧ o = .noHello ∧ (s.heads.get h).hello.isSome = true)
      ∨ (i = .readyTimerExpiry h ∧ o = .noReady ∧ (s.heads.get h).ready.isSome = true)
      ∨ (i = .resultTimerExpiry h ∧ o = .noResult ∧ (s.heads.get h).result.isSome = true) →
    (s.HeldOpenBeside h → ∃ t : State, exec i s = .next t
      ∧ t.outcomeOf h = some o ∧ (t.heads.get h).state = .off ∧ (t.triggers.get h).Quiet
      ∧ (t.heads.get h).miss = min ((s.heads.get h).miss + 1) 15
      ∧ ((s.heads.get h).exclusion = none → (s.settings.head.get h).missLimit ≤ min ((s.heads.get h).miss + 1) 15 →
          (t.heads.get h).exclusion = some .misses ∧ ∀ st : Station, hasEvent (t.stations.get st).flags .headExcluded = true)
      ∧ ((s.heads.get h).exclusion.isSome = true
            ∨ min ((s.heads.get h).miss + 1) 15 < (s.settings.head.get h).missLimit →
          (t.heads.get h).exclusion = (s.heads.get h).exclusion
          ∧ ∀ st : Station, hasEvent (t.stations.get st).flags .headExcluded = hasEvent (s.stations.get st).flags .headExcluded)
      ∧ (t.energy.onTime.get h).ms = 0 ∧ (t.energy.onTime.get h).running = false
      ∧ t.energy.spend = min (s.energy.spend + (s.energy.onTime.get h).ms * (s.settings.head.get h).current / 1000) 4294967295
      ∧ (t.ports.get (headPort h)).queue = []
      ∧ (∀ g : Head, g ≠ h → t.heads.get g = s.heads.get g ∧ t.triggers.get g = s.triggers.get g
          ∧ t.member g = s.member g ∧ t.ports.get (headPort g) = s.ports.get (headPort g))
      ∧ t.ramps = s.ramps ∧ t.plan = s.plan ∧ t.sched = s.sched ∧ t.journal = s.journal)
    ∧ (∀ (f : Frame) (m : Member), s.ClosesWith h → s.sched.run = .held → s.CloseStaysOutOfHalt → s.frame = some f →
        f.members.get h = some m →
        ∃ t : State, exec i s = .next t
          ∧ s.ClosedHeld t { f with members := f.members.set h (some { m with outcome := some o }) }
          ∧ (t.heads.get h).state = .off ∧ (t.triggers.get h).Quiet
          ∧ (t.heads.get h).miss = min ((s.heads.get h).miss + 1) 15 ∧ t.ramps = s.ramps)
    ∧ (∀ (f : Frame) (m : Member), s.ClosesWith h → s.frame = some f → f.members.get h = some m →
        ∃ (v : State) (g : Frame), g = { f with members := f.members.set h (some { m with outcome := some o }) }
          ∧ exec i s = .next (v.closeFrame g) ∧ v.frame = some g
          ∧ v.sched = s.sched ∧ v.plan = s.plan ∧ v.journal = s.journal ∧ v.settings = s.settings ∧ v.time = s.time
          ∧ v.bsense = s.bsense ∧ v.ramps = s.ramps ∧ v.meter = s.meter
          ∧ (v.heads.get h).state = .off ∧ (v.triggers.get h).Quiet
          ∧ (v.heads.get h).miss = min ((s.heads.get h).miss + 1) 15 ∧ (v.energy.onTime.get h).ms = 0
          ∧ (∀ k : Head, k ≠ h → v.heads.get k = s.heads.get k)
          ∧ ((s.heads.get h).exclusion = none → (s.settings.head.get h).missLimit ≤ min ((s.heads.get h).miss + 1) 15 →
              (v.heads.get h).exclusion = some .misses ∧ ∀ st : Station, hasEvent (v.stations.get st).flags .headExcluded = true)
          ∧ ((s.heads.get h).exclusion.isSome = true
                ∨ min ((s.heads.get h).miss + 1) 15 < (s.settings.head.get h).missLimit →
              (v.heads.get h).exclusion = (s.heads.get h).exclusion
              ∧ ∀ st : Station, hasEvent (v.stations.get st).flags .headExcluded = hasEvent (s.stations.get st).flags .headExcluded))

/-- The grace of CLOSING ends: STANDBY with its timer when the interval is within the threshold, the tier not HALT, the head
ADMITTED with no mark set, and OFF otherwise, the on-time joining the spend. While another member holds the frame open
nothing else follows; as the last head to leave CLOSING it closes the frame, RUNNING or HELD, by the close of
AppendDeliversToEachStation, and of a HELD part what the close leaves is stated outright. The standby timer runs out while the
sequence is held and no frame is in flight, or, RUNNING too, where the spend leaves the tier and no frame closes by it: the
head goes OFF and its on-time joins the spend. That the keep-off mark ends with the rail is the model's reading (log entry 8). -/
def Obligations.GraceAndStandbyTimersEnd : Prop :=
  (∀ (s : State) (h : Head) (f : Frame), s.runs = true → s.frame = some f → (s.heads.get h).state = .closing →
     (s.heads.get h).grace.isSome = true → s.energy.voltageTier ≠ .halt →
     (s.HeldOpenBeside h → f.interval ≤ (s.settings.head.get h).standbyThreshold → s.energy.effective ≠ .halt →
       (s.heads.get h).exclusion = none → (s.heads.get h).keepOff = false → (s.heads.get h).storageMark = false →
       exec (.graceTimerExpiry h) s = .next { s with heads := s.heads.set h { s.heads.get h with
         state := .standby, hello := none, ready := none, result := none, grace := none
         standby := some ((s.settings.head.get h).standbyThreshold * 1000), keepOff := false } })
     ∧ (s.HeldOpenBeside h → (s.settings.head.get h).standbyThreshold < f.interval ∨ s.energy.effective = .halt
         ∨ (s.heads.get h).exclusion.isSome = true ∨ (s.heads.get h).keepOff = true ∨ (s.heads.get h).storageMark = true →
       ∃ t : State, exec (.graceTimerExpiry h) s = .next t ∧ (t.heads.get h).state = .off ∧ (t.heads.get h).keepOff = false
         ∧ (t.heads.get h).storageMark = false ∧ (t.triggers.get h).Quiet ∧ (t.energy.onTime.get h).ms = 0
         ∧ t.energy.spend =
             min (s.energy.spend + (s.energy.onTime.get h).ms * (s.settings.head.get h).current / 1000) 4294967295
         ∧ ((s.heads.get h).storageMark = true → (s.heads.get h).exclusion = none →
             (t.heads.get h).exclusion = some .storage)
         ∧ ∀ g : Head, g ≠ h → t.heads.get g = s.heads.get g)
     ∧ (s.ClosesWith h → s.undecided h = false → (s.member h).isSome = true → s.sched.run = .held → s.CloseStaysOutOfHalt →
       s.energy.effective ≠ .halt → ∃ t : State, exec (.graceTimerExpiry h) s = .next t ∧ s.ClosedHeld t f
         ∧ (f.interval ≤ (s.settings.head.get h).standbyThreshold → (s.heads.get h).exclusion = none →
             (s.heads.get h).keepOff = false → (s.heads.get h).storageMark = false → (t.heads.get h).state = .standby)
         ∧ ((s.settings.head.get h).standbyThreshold < f.interval ∨ (s.heads.get h).exclusion.isSome = true
             ∨ (s.heads.get h).keepOff = true ∨ (s.heads.get h).storageMark = true → (t.heads.get h).state = .off)
         ∧ (t.energy.onTime.get h).ms = 0)
     ∧ (s.ClosesWith h → s.undecided h = false → (s.member h).isSome = true →
       ∃ v : State, exec (.graceTimerExpiry h) s = .next (v.closeFrame f) ∧ v.frame = some f
         ∧ v.sched = s.sched ∧ v.plan = s.plan ∧ v.journal = s.journal ∧ v.settings = s.settings ∧ v.time = s.time
         ∧ v.bsense = s.bsense ∧ v.ramps = s.ramps ∧ v.meter = s.meter ∧ (v.heads.get h).storageMark = false
         ∧ ((v.heads.get h).state = .off ∨ (v.heads.get h).state = .standby)
         ∧ ((v.heads.get h).state = .standby ↔ f.interval ≤ (s.settings.head.get h).standbyThreshold
             ∧ s.energy.effective ≠ .halt ∧ (s.heads.get h).exclusion = none ∧ (s.heads.get h).keepOff = false
             ∧ (s.heads.get h).storageMark = false)
         ∧ ((v.heads.get h).state = .off → (v.triggers.get h).Quiet ∧ (v.energy.onTime.get h).ms = 0)
         ∧ (∀ k : Head, k ≠ h → v.heads.get k = s.heads.get k)))
  ∧ (∀ (s : State) (h : Head), s.runs = true → s.frame = none → s.sched.run = .held → (s.heads.get h).state = .standby →
     (s.heads.get h).standby.isSome = true →
     ∃ t : State, exec (.standbyTimerExpiry h) s = .next t ∧ (t.heads.get h).state = .off
       ∧ (t.heads.get h).standby = none ∧ (t.triggers.get h).Quiet ∧ (t.energy.onTime.get h).ms = 0
       ∧ (t.energy.onTime.get h).running = false
       ∧ (s.energy.voltageTier ≠ .halt → t.energy.spend =
           min (s.energy.spend + (s.energy.onTime.get h).ms * (s.settings.head.get h).current / 1000) 4294967295)
       ∧ (∀ g : Idx, t.flags.get g ≠ some (headPort h))
       ∧ t.windows = s.windows ∧ t.ramps = s.ramps ∧ t.frame = none)
  ∧ (∀ (s : State) (h : Head), s.runs = true → (s.heads.get h).state = .standby → (s.heads.get h).standby.isSome = true →
     worse s.energy.voltageTier (floorOf s.settings.allowance
       (min (s.energy.spend + (s.energy.onTime.get h).ms * (s.settings.head.get h).current / 1000) 4294967295)).tier
         = s.energy.effective →
     s.frame = none ∨ s.HeldOpenBeside h ∨ s.undecided h = true →
     ∃ t : State, exec (.standbyTimerExpiry h) s = .next t ∧ (t.heads.get h).state = .off
       ∧ (t.heads.get h).standby = none ∧ (t.triggers.get h).Quiet ∧ (t.energy.onTime.get h).ms = 0
       ∧ t.energy.spend =
           min (s.energy.spend + (s.energy.onTime.get h).ms * (s.settings.head.get h).current / 1000) 4294967295
       ∧ (∀ g : Head, g ≠ h → t.heads.get g = s.heads.get g ∧ t.triggers.get g = s.triggers.get g)
       ∧ t.frame = s.frame ∧ t.sched = s.sched ∧ t.plan = s.plan ∧ t.ramps = s.ramps ∧ t.journal = s.journal)

/-- The arm window runs out: members not ready are NO_READY with a miss, armed ones ABANDONED, both CLOSING; a member not yet
woken is ABANDONED where it is; decided members keep their outcome, and no trigger moves. A miss that reaches the limit excludes
its head and raises HEAD_EXCLUDED, the head staying CLOSING. -/
def Obligations.ArmWindowExpiryAbandons : Prop :=
  ∀ (s : State) (f : Frame) (w : Head), s.runs = true → s.frame = some f → s.armTimer.isSome = true →
    s.undecided w = true →
    (s.heads.get w).state = .waking ∨ (s.heads.get w).state = .ticketed ∨ (s.heads.get w).state = .armed →
    ∃ (t : State) (g : Frame), exec .armTimerExpiry s = .next t ∧ t.frame = some g ∧ g.sync = .abandoned
      ∧ t.armTimer = none ∧ t.triggers = s.triggers ∧ t.energy = s.energy ∧ t.ports = s.ports ∧ t.ramps = s.ramps
      ∧ t.sched = s.sched ∧ t.plan = s.plan ∧ t.journal = s.journal
      ∧ ∀ h : Head,
        (s.undecided h = true → (s.heads.get h).state = .waking ∨ (s.heads.get h).state = .ticketed →
          t.outcomeOf h = some .noReady ∧ (t.heads.get h).state = .closing ∧ (t.heads.get h).grace = some 2000
          ∧ (t.heads.get h).miss = min ((s.heads.get h).miss + 1) 15
          ∧ ((s.heads.get h).exclusion = none → (s.settings.head.get h).missLimit ≤ min ((s.heads.get h).miss + 1) 15 →
              (t.heads.get h).exclusion = some .misses
              ∧ ∀ st : Station, hasEvent (t.stations.get st).flags .headExcluded = true)
          ∧ ((s.heads.get h).exclusion.isSome = true
                ∨ min ((s.heads.get h).miss + 1) 15 < (s.settings.head.get h).missLimit →
              (t.heads.get h).exclusion = (s.heads.get h).exclusion))
        ∧ (s.undecided h = true → (s.heads.get h).state = .armed →
          t.outcomeOf h = some .abandoned ∧ (t.heads.get h).state = .closing ∧ (t.heads.get h).grace = some 2000
          ∧ (t.heads.get h).miss = (s.heads.get h).miss ∧ (t.heads.get h).exclusion = (s.heads.get h).exclusion)
        ∧ (s.undecided h = true → (s.heads.get h).state = .off ∨ (s.heads.get h).state = .standby →
          t.outcomeOf h = some .abandoned ∧ t.heads.get h = s.heads.get h)
        ∧ (s.undecided h = false → t.outcomeOf h = s.outcomeOf h ∧ t.heads.get h = s.heads.get h)

/-- The exposure end moves a head from EXPOSING to REPORTING with its result timer and releases a BULB trigger; the end of a
pulse releases the trigger and nothing else. A member whose entry has no ticket part ends its exposure alike, in either mode
(log entry 36). -/
def Obligations.ExposureAndPulseEnd : Prop :=
  (∀ (s : State) (h : Head) (m : Member) (k : TicketPart), s.runs = true → s.member h = some m → m.ticket = some k →
    (s.triggers.get h).bulb.isSome = true → (s.heads.get h).state = .exposing →
    exec (.bulbTimerExpiry h) s = .next { s with
      heads := s.heads.set h { s.heads.get h with
        state := .reporting, hello := none, ready := none, grace := none, standby := none
        result := some ((s.settings.head.get h).resultTimeout * 1000) }
      triggers := s.triggers.set h (if k.mode = .bulb then
          { asserted := false, level := decide ((s.settings.head.get h).polarity = .activeLow), bulb := none, pulse := none }
        else { s.triggers.get h with bulb := none }) })
  ∧ (∀ (s : State) (h : Head), s.runs = true → (s.triggers.get h).pulse.isSome = true →
    exec (.pulseWidthElapsed h) s = .next { s with
      triggers := s.triggers.set h { s.triggers.get h with
        asserted := false, level := decide ((s.settings.head.get h).polarity = .activeLow), pulse := none } })
  ∧ (∀ (s : State) (h : Head) (m : Member), s.runs = true → s.member h = some m → m.ticket = none →
    (s.triggers.get h).bulb.isSome = true → (s.heads.get h).state = .exposing →
    ∃ t : State, exec (.bulbTimerExpiry h) s = .next t ∧ (t.heads.get h).state = .reporting
      ∧ (t.heads.get h).result = some ((s.settings.head.get h).resultTimeout * 1000) ∧ (t.triggers.get h).bulb = none
      ∧ t = { s with heads := t.heads, triggers := t.triggers }
      ∧ ∀ g : Head, g ≠ h → t.heads.get g = s.heads.get g ∧ t.triggers.get g = s.triggers.get g)

/-- HEAD_READMIT admits the heads it names, with miss count 0 and no storage mark, and changes no other head and nothing
else; it answers with all four heads, each as admission, reason behind its presence byte, and miss count. How the reply groups
the three items of a head is the model's reading (log entry 19). -/
def Obligations.ReadmitClearsTheMisses : Prop :=
  (∀ (s : State) (p : Port) (tag index : Byte), s.Accepts .headReadmit p →
     (3 < index.toNat → index.toNat ≠ 255 →
       exec (.headReadmit p tag index) s = .next (s.answer p .headReadmit tag .badIndex s.admissionBytes))
     ∧ (index.toNat ≤ 3 ∨ index.toNat = 255 → ∃ t : State,
         exec (.headReadmit p tag index) s = .next (t.answer p .headReadmit tag .ok t.admissionBytes)
         ∧ t = { s with heads := t.heads }
         ∧ ∀ h : Head, t.heads.get h = if index.toNat = 255 ∨ index.toNat = headCode h then
             { s.heads.get h with miss := 0, exclusion := none, storageMark := false } else s.heads.get h))
  ∧ (∀ s : State, s.admissionBytes = ([Head.h0, .h1, .h2, .h3].map (fun h =>
      [if (s.heads.get h).exclusion.isSome then 1#8 else 0#8]
        ++ (if (s.heads.get h).exclusion = none then [0#8, 0#8]
          else if (s.heads.get h).exclusion = some .misses then [1#8, 0#8] else [1#8, 1#8])
        ++ leBytes 1 (s.heads.get h).miss)).flatten)

/-! ## The ramp -/

/-- RAMP_READ reports one record and changes nothing; RAMP_RESEED makes the records it names unseeded with correction 0,
keeping result level and summary. The record is seeded, applied need, correction, result level, ticket summary and the
correction limit. How the record stands in the reply is the model's reading (log entry 19). -/
def Obligations.RampReadAndReseed : Prop :=
  (∀ (s : State) (p : Port) (tag index : Byte), s.Accepts .rampRead p →
     (∀ h : Head, index.toNat = headCode h → exec (.rampRead p tag index) s =
       .next (s.answer p .rampRead tag .ok ((s.ramps.get h).bytes s.settings.correctionLimit)))
     ∧ (3 < index.toNat → exec (.rampRead p tag index) s = .next (s.answer p .rampRead tag .badIndex []))
     ∧ (3 < index.toNat → index.toNat ≠ 255 →
         exec (.rampReseed p tag index) s = .next (s.answer p .rampReseed tag .badIndex []))
     ∧ (index.toNat ≤ 3 ∨ index.toNat = 255 → ∃ t : State,
         exec (.rampReseed p tag index) s = .next (t.answer p .rampReseed tag .ok [])
         ∧ t = { s with ramps := t.ramps }
         ∧ ∀ h : Head, t.ramps.get h = if index.toNat = 255 ∨ index.toNat = headCode h then
             { s.ramps.get h with need := none, correction := 0 } else s.ramps.get h))
  ∧ (∀ (r : RampRecord) (limit : Nat), r.bytes limit = [if r.need.isSome then 1#8 else 0#8]
      ++ optField 2 (r.need.map Int.ofNat) ++ leBytes 2 r.correction ++ optField 2 (r.lastLevel.map Int.ofNat)
      ++ r.lastTicket.elim (List.replicate 14 0#8) (fun y => 1#8 :: (leBytes 4 y.sequence ++ leBytes 4 y.exposure
          ++ leBytes 2 y.gain ++ leBytes 2 y.aperture ++ [ticketFlagsByte y.flags]))
      ++ leBytes 2 limit)
  ∧ (∀ x : TicketFlags, (ticketFlagsByte x).getLsbD 0 = x.seeded ∧ (ticketFlagsByte x).getLsbD 1 = x.capped
      ∧ (ticketFlagsByte x).getLsbD 2 = x.brightLimit ∧ (ticketFlagsByte x).getLsbD 3 = x.darkLimit
      ∧ (ticketFlagsByte x).getLsbD 4 = x.noMeter ∧ (ticketFlagsByte x).toNat < 32)

/-- What a ticket needs. Its inputs, each from where it stands. The shutter cap from interval and reserve, cap_stops the most
shutter the ladder and the cap allow, and the effective spans, whose sum is the reachable top: shutter as far as cap_stops goes,
gain and aperture where the head has them. The target need is key plus compensation plus correction minus Bv; the clamped need
lies in 0 to the top, BRIGHT_LIMIT set below 0 and DARK_LIMIT above the top; a NONE reading holds the need and sets NO_METER. An
unseeded record takes the clamped need as it is, with SEEDED; a seeded one moves by a weighted step within the slew limit: the
new need lies between 0 and the top, and moves by no more than the slew limit unless it equals the top; within the deadband it
only gives way to the top. -/
def Obligations.SmoothingStaysInTheSlew : Prop :=
  (∀ (s : State) (f : Frame) (h : Head) (x : TicketInputs), x = s.ticketInputs f h →
    x.ladder = s.plan.activeBank.ladder ∧ x.base = s.settings.shutterBase ∧ x.interval = f.interval
    ∧ x.reserve = (s.settings.head.get h).cycleReserve ∧ x.gainControl = (s.settings.head.get h).gainControl
    ∧ x.apertureControl = (s.settings.head.get h).apertureControl ∧ x.key = s.settings.key
    ∧ x.compensation = f.phase.compensation ∧ x.correction = (s.ramps.get h).correction ∧ x.deadband = f.phase.deadband
    ∧ x.smoothingWeight = f.phase.smoothingWeight ∧ x.slewLimit = f.phase.slewLimit
    ∧ x.bv = s.meter.latest.map (·.bv) ∧ x.need = (s.ramps.get h).need)
  ∧ (∀ (x : TicketInputs) (cap total : Nat),
    cap = (if x.reserve < x.interval then (x.interval - x.reserve) * 1000000 else x.base) →
    total = ((x.ladder.filter (fun g => g.control == .shutter)).map (·.span)).sum →
    x.capStops ≤ total ∧ (x.base ≤ cap → durationOf x.base x.capStops ≤ cap)
    ∧ (∀ n : Nat, n ≤ total → durationOf x.base n ≤ cap → n ≤ x.capStops)
    ∧ (x.flags.capped = true ↔ x.capStops < total)
    ∧ x.spans.length = x.ladder.length ∧ x.top = (x.spans.map (·.span)).sum
    ∧ (∀ (i : Nat) (g : Segment), x.ladder[i]? = some g → ∃ e : Segment, x.spans[i]? = some e ∧ e.control = g.control
        ∧ (g.control = .shutter → e.span = min g.span (x.capStops -
            (((x.spans.take i).filter (fun y => y.control == .shutter)).map (·.span)).sum))
        ∧ (g.control = .gain → e.span = if x.gainControl then g.span else 0)
        ∧ (g.control = .aperture → e.span = if x.apertureControl then g.span else 0)))
  ∧ (∀ (x : TicketInputs) (n : Int),
    (∀ v : Int, x.bv = some v → n = x.key + x.compensation + x.correction - v →
      x.flags.noMeter = false
      ∧ (n < 0 → x.clampedNeed = 0 ∧ x.flags.brightLimit = true ∧ x.flags.darkLimit = false)
      ∧ (0 ≤ n → n ≤ x.top → x.clampedNeed = n ∧ x.flags.brightLimit = false ∧ x.flags.darkLimit = false)
      ∧ ((x.top : Int) < n → x.clampedNeed = x.top ∧ x.flags.brightLimit = false ∧ x.flags.darkLimit = true))
    ∧ (x.bv = none → x.flags.noMeter = true ∧ x.flags.brightLimit = false ∧ x.flags.darkLimit = false
      ∧ (∀ a : Nat, x.need = some a → x.clampedNeed = a) ∧ (x.need = none → x.newNeed = 0))
    ∧ (x.need = none → x.flags.seeded = true ∧ (x.newNeed : Int) = x.clampedNeed)
    ∧ (x.need.isSome = true → x.flags.seeded = false))
  ∧ (∀ (x : TicketInputs) (a : Nat) (d step : Int), x.need = some a → 1 ≤ x.slewLimit → d = x.clampedNeed - a →
    step = Int.tdiv (d * x.smoothingWeight) 16 →
    x.newNeed ≤ x.top
    ∧ (((x.newNeed : Int) - a).natAbs ≤ x.slewLimit ∨ x.newNeed = x.top)
    ∧ (d.natAbs ≤ x.deadband → x.newNeed = min a x.top)
    ∧ (x.deadband < d.natAbs → step ≠ 0 →
        (x.newNeed : Int) = max 0 (min (a + max (-(x.slewLimit : Int)) (min step x.slewLimit)) x.top))
    ∧ (x.deadband < d.natAbs → step = 0 →
        (x.newNeed : Int) = max 0 (min (if 0 < d then (a : Int) + 1 else (a : Int) - 1) x.top))
    ∧ (x.deadband < d.natAbs → a ≤ x.top → 1 ≤ x.smoothingWeight → x.smoothingWeight ≤ 16 →
        x.newNeed ≠ a ∧ ((a : Int) < x.clampedNeed → (a : Int) < x.newNeed ∧ (x.newNeed : Int) ≤ x.clampedNeed)
        ∧ (x.clampedNeed < a → x.clampedNeed ≤ (x.newNeed : Int) ∧ (x.newNeed : Int) < a)))

/-- The ladder walk places the whole applied need, spends nothing on a control the head lacks, and the exposure is at least
the base and at most the shutter cap. The figures of the ticket are the new need, the duration of the shutter steps, the gain
and the aperture steps; a segment takes what remains or its span, whichever is less. The duration doubles every 64 steps, and
between doublings each entry of its table is the nearest integer to 65536 times 2^(r/64). -/
def Obligations.LadderWalkPlacesTheNeed : Prop :=
  (∀ x : TicketInputs,
    walk .shutter x.newNeed x.spans + walk .gain x.newNeed x.spans + walk .aperture x.newNeed x.spans = x.newNeed
    ∧ (x.gainControl = false → walk .gain x.newNeed x.spans = 0)
    ∧ (x.apertureControl = false → walk .aperture x.newNeed x.spans = 0)
    ∧ walk .shutter x.newNeed x.spans ≤ x.capStops
    ∧ (10 ≤ x.base → x.base ≤ 1000 → 1 ≤ x.reserve →
        x.base ≤ x.compute.exposure
        ∧ x.compute.exposure ≤ (if x.reserve < x.interval then (x.interval - x.reserve) * 1000000 else x.base)))
  ∧ (∀ x : TicketInputs, x.compute.need = x.newNeed ∧ x.compute.exposure = durationOf x.base (walk .shutter x.newNeed x.spans)
      ∧ x.compute.gain = walk .gain x.newNeed x.spans ∧ x.compute.aperture = walk .aperture x.newNeed x.spans
      ∧ x.compute.flags = x.flags)
  ∧ (∀ (c : Control) (left : Nat) (g : Segment) (rest : List Segment), walk c left [] = 0
      ∧ walk c left (g :: rest) = (if g.control = c then min left g.span else 0) + walk c (left - min left g.span) rest)
  ∧ (∀ base q r : Nat, r < 64 → durationOf base (64 * q + r) = base * powerTable.getD r 0 * 2 ^ q / 65536)
  ∧ (∀ (r v : Nat), powerTable[r]? = some v → r < 64
      ∧ (2 * v - 1) ^ 64 < 131072 ^ 64 * 2 ^ r ∧ 131072 ^ 64 * 2 ^ r < (2 * v + 1) ^ 64)

/-- L64, whole: the highest set bit, the fraction index, and the table value, which is 64 times the base-2 logarithm of
1 + j/64 rounded to the nearest integer. -/
def Obligations.LogarithmFollowsItsTable : Prop :=
  (∀ x : Nat, 1 ≤ x → ∃ n j t : Nat, 2 ^ n ≤ x ∧ x < 2 ^ (n + 1) ∧ j < 64
    ∧ (6 ≤ n → j = x / 2 ^ (n - 6) - 64) ∧ (n < 6 → j = x * 2 ^ (6 - n) - 64)
    ∧ log64 x = 64 * n + t
    ∧ 64 ^ 128 * 2 ^ (2 * t) < 2 * (64 + j) ^ 128 ∧ (64 + j) ^ 128 < 64 ^ 128 * 2 ^ (2 * t + 1))
  ∧ (∀ x : Nat, 1 ≤ x → x ≤ 1048575 → log64 x ≤ 1279) ∧ log64 1 = 0 ∧ log64 1048575 = 1279

/-! ## The meter and the battery -/

/-- A pulse of the edge of the reading adds one while GATING and saturates; the end of the settle time clears the counter and
opens the gate; the period timer starts a reading from IDLE, with a settle time of 0 its gate opening at once, and otherwise
stays stopped. -/
def Obligations.MeterEventsRunTheReading : Prop :=
  ∀ (s : State) (e : Edge), s.runs = true →
    (s.meter.activity = .gating → s.meter.readingEdge = e → exec (.pulseEdge e) s =
      .next { s with meter := { s.meter with pulses := min (s.meter.pulses + 1) 1048575 } })
    ∧ (s.meter.activity ≠ .gating ∨ s.meter.readingEdge ≠ e → exec (.pulseEdge e) s = .next s)
    ∧ (s.meter.activity = .settling → exec .settleElapsed s = .next { s with meter := { s.meter with
        activity := .gating, pulses := 0, settleTimer := none, gateTimer := some s.meter.readingGate.ms } })
    ∧ (s.meter.periodTimer.isSome = true → s.meter.activity ≠ .idle →
        exec .periodTimerExpiry s = .next { s with meter := { s.meter with periodTimer := none } })
    ∧ (s.meter.periodTimer.isSome = true → s.meter.activity = .idle → 1 ≤ s.settings.settle →
        exec .periodTimerExpiry s = .next { s with meter := { s.meter with
          activity := .settling, readingGate := s.meter.gateSelection, readingEdge := s.settings.edge
          settleTimer := some s.settings.settle, gateTimer := none
          periodTimer := some (s.settings.meterPeriod * 1000) } })
    ∧ (s.meter.periodTimer.isSome = true → s.meter.activity = .idle → s.settings.settle = 0 →
        exec .periodTimerExpiry s = .next { s with meter := { s.meter with
          activity := .gating, pulses := 0, readingGate := s.meter.gateSelection, readingEdge := s.settings.edge
          settleTimer := none, gateTimer := some s.meter.gateSelection.ms
          periodTimer := some (s.settings.meterPeriod * 1000) } })

/-- A reading completes: Bv and state from the count and the gate used, the record replaced whole, the next gate chosen by its
table, IDLE. In HELD nothing else changes. In RUNNING a light-dependent successor is judged: a reading that counts STABLE (a
STABLE one, or a DARK or SATURATED one after one like it) adds to the confirm counter where it meets the condition and clears
it where it does not, an UNSTABLE one leaves it, and at the confirm count the successor is entered. -/
def Obligations.ReadingCompletes : Prop :=
  (∀ (s : State) (r : Reading), s.runs = true → s.meter.activity = .gating → r.count = s.meter.pulses →
    r.gate = s.meter.readingGate → r.time = s.time.count →
    r.bv = (if s.meter.pulses = 0 then s.settings.darkFloor
      else (log64 s.meter.pulses : Int) - 64 * s.meter.readingGate.exponent + s.settings.calibration) →
    (s.meter.pulses = 0 → r.state = .dark) → (1048575 ≤ s.meter.pulses → r.state = .saturated) →
    (0 < s.meter.pulses → s.meter.pulses < 1048575 → (r.state = .stable ↔ ∃ v : Int, s.meter.previousLevel = some v
      ∧ (r.bv - v).natAbs ≤ s.settings.hysteresis)) →
    (0 < s.meter.pulses → s.meter.pulses < 1048575 → r.state = .stable ∨ r.state = .unstable) →
    ∃ t : State, t = { s with meter := { s.meter with
        activity := .idle, settleTimer := none, gateTimer := none, latest := some r
        previousState := s.meter.latest.map (·.state), previousLevel := some r.bv
        gateSelection := nextGate s.meter.pulses s.meter.readingGate } }
      ∧ (s.sched.run = .held → exec .readingCompletion s = .next t)
      ∧ (s.sched.run = .running → (∀ v : Nat, s.plan.successor.start = .atTime v → exec .readingCompletion s = .next t)
          ∧ (s.plan.successor.start = .afterLimit → exec .readingCompletion s = .next t))
      ∧ (s.sched.run = .running → ∀ (threshold : Int) (confirm : Nat) (counts meets : Prop),
          (counts ↔ r.state = .stable ∨ (r.state = .dark ∧ s.meter.latest.map (·.state) = some .dark)
            ∨ (r.state = .saturated ∧ s.meter.latest.map (·.state) = some .saturated)) →
          (s.plan.successor.start = .onDarker threshold confirm
              ∧ (meets ↔ r.state = .dark ∨ (r.state ≠ .saturated ∧ r.bv ≤ threshold)))
            ∨ (s.plan.successor.start = .onBrighter threshold confirm
              ∧ (meets ↔ r.state = .saturated ∨ (r.state ≠ .dark ∧ threshold ≤ r.bv))) →
          (¬counts → s.plan.confirm < confirm → exec .readingCompletion s = .next t)
          ∧ (counts → meets → s.plan.confirm + 1 < confirm → exec .readingCompletion s =
            .next { t with plan := { s.plan with confirm := s.plan.confirm + 1 } })
          ∧ (counts → ¬meets → 1 ≤ confirm → exec .readingCompletion s =
            .next { t with plan := { s.plan with confirm := 0 } })
          ∧ (counts → meets → confirm ≤ s.plan.confirm + 1 → ∃ u : State, exec .readingCompletion s = .next u
              ∧ u.plan.index = s.plan.successorIndex ∧ u.plan.entry = (s.plan.entry + 1) % 4294967296
              ∧ u.plan.confirm = 0 ∧ u.plan.remaining = s.plan.successor.frameLimit
              ∧ ∀ st : Station, hasEvent (u.stations.get st).flags .phaseChanged = true)))
  ∧ (∀ (c : Nat) (g : Gate),
      (c < 1024 → nextGate c g = if g = .ms250 then .s1 else .s4)
      ∧ (1024 ≤ c → c ≤ 262143 → nextGate c g = g)
      ∧ (262143 < c → nextGate c g = if g = .s4 then .s1 else .ms250))
  ∧ (Gate.ms250.exponent = -2 ∧ Gate.s1.exponent = 0 ∧ Gate.s4.exponent = 2)

/-- The measurement timer expires, whatever the input shows: the reading, its time and the voltage tier by the thresholds
with their hysteresis, the timer started again with 60 s. Where the effective tier does not change and no frame closes
nothing else follows. A change to a tier other than HALT, the exit from HALT among them, raises TIER_CHANGED and has the due
time computed while no frame is in flight; a frame in flight it leaves alone. A change to HALT drops the due time and cuts
every rail, and a frame in flight is aborted and closed within the event, its undecided members POWER_CUT. How the input
stands in the command, a list whose first value this measurement takes, or none, is the model's choice (log entry 2). -/
def Obligations.MeasurementTakesAReading : Prop :=
  ∀ (s u : State) (shown : List Nat) (input : BSense) (v : Nat) (tier : Tier),
    input = (match shown with | [] => s.bsense | w :: rest => ⟨w, rest⟩) → s.runs = true → s.energy.measureTimer.isSome = true →
    v = min input.level 16383 → tier = judgeVoltage s.settings s.energy.voltageTier v →
    u = { s with
      bsense := input.advance
      energy := { s.energy with
        reading := v, readingTime := s.time.count, voltageTier := tier, measureTimer := some 60000
        effective := worse tier s.energy.floor.tier }
      stations := if worse tier s.energy.floor.tier = s.energy.effective then s.stations
        else ⟨{ s.stations.ul with flags := s.stations.ul.flags ||| 16#10 },
          { s.stations.sv with flags := s.stations.sv.flags ||| 16#10 }⟩ } →
    (worse tier s.energy.floor.tier = s.energy.effective → s.frame = none ∨ s.frameFinished = false →
      exec (.measurementTimerExpiry shown) s = .next u)
    ∧ (worse tier s.energy.floor.tier ≠ s.energy.effective → worse tier s.energy.floor.tier ≠ .halt →
        (s.frame = none → u.computeDue.openReached = false →
          exec (.measurementTimerExpiry shown) s = .next u.computeDue)
        ∧ (s.frame.isSome = true → s.frameFinished = false → exec (.measurementTimerExpiry shown) s = .next u))
    ∧ (worse tier s.energy.floor.tier ≠ s.energy.effective → worse tier s.energy.floor.tier = .halt →
        (s.frame = none → ∃ t : State, exec (.measurementTimerExpiry shown) s = .next t ∧ t.energy.effective = .halt
          ∧ t.sched.due = none ∧ t.sched.openTime = none ∧ t.sched.anchor = s.sched.anchor
          ∧ t.sched.skipped = s.sched.skipped
          ∧ (∀ h : Head, (t.heads.get h).state = .off ∧ (t.triggers.get h).Quiet)
          ∧ ∀ st : Station, hasEvent (t.stations.get st).flags .tierChanged = true)
        ∧ (∀ f : Frame, s.frame = some f →
          judgeVoltage s.settings .halt (min input.advance.level 16383) = .halt →
          ∃ (t : State) (r : JournalRecord), exec (.measurementTimerExpiry shown) s = .next t ∧ t.energy.effective = .halt
          ∧ t.frame = none ∧ t.armTimer = none ∧ t.sched.due = none ∧ t.sched.openTime = none
          ∧ t.journal.ring = (if 256 ≤ s.journal.ring.length then s.journal.ring.drop 1 else s.journal.ring) ++ [r]
          ∧ r.sequence = f.sequence ∧ r.outcome = (if f.sync = .abandoned then .abandonedSync else .aborted)
          ∧ r.tierAtClose = .halt ∧ r.battery = min input.advance.level 16383
          ∧ (∀ (h : Head) (m : Member), f.members.get h = some m →
              ∃ e : HeadEntry, r.heads.get h = some e ∧ e.outcome = m.outcome.getD .powerCut ∧ e.ticket = m.ticket)
          ∧ (f.forced = false → f.resumedInFlight = false → t.sched.anchor = some ⟨f.due, .frame⟩)
          ∧ (f.forced = true ∨ f.resumedInFlight = true → t.sched.anchor = s.sched.anchor)
          ∧ (s.plan.swapPending = none → t.plan = s.plan) ∧ t.ramps = s.ramps
          ∧ (∀ h : Head, (t.heads.get h).state = .off ∧ (t.triggers.get h).Quiet)
          ∧ ∀ st : Station, hasEvent (t.stations.get st).flags .tierChanged = true))

/-- The voltage tier falls as soon as the reading is below a threshold and rises only when the reading has cleared it by the
hysteresis; a reading in between leaves it. -/
def Obligations.VoltageTierHasHysteresis : Prop :=
  ∀ (st : Settings) (standing : Tier) (v : Nat),
    (v < st.haltThreshold → judgeVoltage st standing v = .halt)
    ∧ (st.haltThreshold ≤ v → v < st.haltThreshold + st.tierHysteresis → standing = .halt →
        judgeVoltage st standing v = .halt)
    ∧ (st.haltThreshold + st.tierHysteresis ≤ v → v < st.reserveThreshold + st.tierHysteresis → standing = .halt →
        judgeVoltage st standing v = .reserve)
    ∧ (st.haltThreshold + st.tierHysteresis ≤ v → st.reserveThreshold + st.tierHysteresis ≤ v →
        st.economyThreshold + st.tierHysteresis ≤ v → judgeVoltage st standing v = .normal)
    ∧ (st.haltThreshold ≤ v → st.reserveThreshold ≤ v → v < st.economyThreshold → standing = .normal →
        judgeVoltage st standing v = .economy)
    ∧ (st.haltThreshold ≤ v → v < st.reserveThreshold → standing = .normal ∨ standing = .economy →
        judgeVoltage st standing v = .reserve)
    ∧ (st.haltThreshold ≤ v → st.reserveThreshold ≤ v → v < st.reserveThreshold + st.tierHysteresis →
        standing = .reserve → judgeVoltage st standing v = .reserve)
    ∧ (st.haltThreshold ≤ v → st.reserveThreshold ≤ v → v < st.economyThreshold + st.tierHysteresis →
        standing = .economy → judgeVoltage st standing v = .economy)
    ∧ (st.haltThreshold + st.tierHysteresis ≤ v → st.reserveThreshold + st.tierHysteresis ≤ v →
        v < st.economyThreshold + st.tierHysteresis → standing = .reserve ∨ standing = .halt →
        judgeVoltage st standing v = .economy)
    ∧ (st.haltThreshold ≤ v → st.reserveThreshold ≤ v → st.economyThreshold ≤ v → standing = .normal →
        judgeVoltage st standing v = .normal)

/-! ## Supply and starts -/

/-- Loss of the main supply and NRST stop the part: rails, triggers, LSUPEN and lines idle, and everything the retention
domain keeps stays as it was. The trigger level of a stopped part and the values of what is not retained are the model's
reading (log entries 20 and 30). -/
def Obligations.StoppingKeepsTheRetentionDomain : Prop :=
  ∀ (s : State) (i : Instr) (supply : Supply),
    (i = .mainSupplyLoss ∧ supply = { s.supply with mainPresent := false })
      ∨ (i = .nrstAssert ∧ supply = { s.supply with nrstAsserted := true }) →
    ∃ t : State, exec i s = .next t ∧ t.supply = supply ∧ t.runs = false
      ∧ (∀ h : Head, t.rail h = false ∧ (t.triggers.get h).Quiet
          ∧ (t.triggers.get h).level = decide ((s.settings.head.get h).polarity = .activeLow)
          ∧ (t.heads.get h).miss = (s.heads.get h).miss ∧ (t.heads.get h).exclusion = (s.heads.get h).exclusion)
      ∧ t.meter.activity = .idle ∧ (∀ st : Station, t.attn st = false)
      ∧ (∀ q : Port, (t.ports.get q).queue = [] ∧ (t.ports.get q).rx = .hunt)
      ∧ t.time = s.time ∧ t.sched = s.sched ∧ t.plan = s.plan ∧ t.ramps = s.ramps ∧ t.frame = s.frame
      ∧ t.energy = { s.energy with measureTimer := none } ∧ t.journal = s.journal ∧ t.windows = s.windows
      ∧ t.settings = s.settings

/-- A cold start gives the reset state, but for the battery: its reading, whatever the input shows, and the tier judged from
NORMAL, with TIER_CHANGED at both stations when that tier is not NORMAL. The model's choices here: the commands that wait,
which stay (log entry 1), how the input stands in the command (log entry 2), the 12,400 mV in the reset state (log entry 3),
that the start is taken in any power state and finds the supply restored (log entry 23), and the pulse counter and running
second of 0 that the reset state has (log entry 24). -/
def Obligations.ColdStartIsReset : Prop :=
  ∀ (s : State) (shown : List Nat) (input : BSense) (v : Nat) (tier : Tier),
    input = (match shown with | [] => s.bsense | w :: rest => ⟨w, rest⟩) → v = min input.level 16383 →
    tier = judgeVoltage Settings.default .normal v →
    exec (.coldStart shown) s = .next { State.reset with
      bsense := input.advance
      pending := s.pending
      energy := { State.reset.energy with reading := v, voltageTier := tier, effective := tier }
      stations := if tier = .normal then Two.all ⟨0#10, 0#10⟩ else Two.all ⟨16#10, 0#10⟩ }

/-- A warm start with no frame interrupted: RESUMED set, shared flags clear, heads OFF, the meter reading, and while HELD no
due time; plan, ramps, journal, windows, settings and clock are as they were. A warm start with a frame interrupted, while
HELD: the frame is journalled once with LOST_POWER and the pending skipped count, undecided members LOST_POWER and decided
ones as they were, and a pending swap is made. A warm start while RUNNING, no lead above 4 s: the due times missed before the
new anchor join the skipped count, or with a frame interrupted that of its record, and the due time is a START anchor 5 s from
now; in HALT there is none. LOST_POWER for a frame abandoned or aborted before the loss is the model's reading (log entry 11),
and so is the accounting of step 2 (log entry 12). That WARM_START is taken in any power state and finds the supply restored
(log entry 23), that a tier change in the steps before the last lets the Scheduler compute nothing (log entry 39), and how the
battery input stands in the command (log entry 2), are its choices. -/
def Obligations.WarmStartResumesAHeldPart : Prop :=
  ∀ (shown : List Nat) (shows : BSense → BSense),
  (∀ b : BSense, shows b = match shown with | [] => b | w :: rest => ⟨w, rest⟩) →
  (∀ s : State, s.frame = none → s.sched.run = .held →
     ∃ t : State, exec (.warmStart shown) s = .next t ∧ t.supply = ⟨true, false⟩
       ∧ (∀ st : Station, hasEvent (t.stations.get st).flags .resumed = true
           ∧ (t.stations.get st).enables = (s.stations.get st).enables)
       ∧ (∀ i : Idx, t.flags.get i = none)
       ∧ (∀ h : Head, (t.heads.get h).state = .off ∧ (t.triggers.get h).Quiet ∧ (t.heads.get h).storageMark = false
           ∧ (t.heads.get h).miss = (s.heads.get h).miss ∧ (t.heads.get h).exclusion = (s.heads.get h).exclusion
           ∧ (t.energy.onTime.get h).ms = 0 ∧ (t.energy.onTime.get h).running = false)
       ∧ (∀ q : Port, (t.ports.get q).queue = [] ∧ (t.ports.get q).rx = .hunt ∧ (t.ports.get q).errors = ⟨0, 0, 0, 0, 0⟩
           ∧ (t.ports.get q).thresholdRaised = false ∧ (t.ports.get q).speed = (s.settings.port.get q).lineSpeed)
       ∧ t.meter.activity ≠ .idle ∧ t.meter.latest = none ∧ t.meter.previousLevel = none ∧ t.meter.readingGate = .s1
       ∧ t.energy.reading = min (shows s.bsense).level 16383 ∧ t.energy.measureTimer = some 60000
       ∧ t.sched.due = none ∧ t.sched.openTime = none ∧ t.sched.anchor = s.sched.anchor
       ∧ t.sched.skipped = s.sched.skipped ∧ t.frame = none
       ∧ t.plan = s.plan ∧ t.ramps = s.ramps ∧ t.journal = s.journal ∧ t.windows = s.windows ∧ t.settings = s.settings
       ∧ t.time.count = s.time.count ∧ t.time.valid = s.time.valid ∧ t.time.sinceSet = 0)
  ∧ (∀ (s : State) (f : Frame), s.frame = some f → s.sched.run = .held →
     ∃ (t : State) (r : JournalRecord), exec (.warmStart shown) s = .next t ∧ t.frame = none
       ∧ t.journal.ring = (if 256 ≤ s.journal.ring.length then s.journal.ring.drop 1 else s.journal.ring) ++ [r]
       ∧ r.sequence = f.sequence ∧ r.outcome = .lostPower ∧ r.skipped = min (f.skipped + s.sched.skipped) 65535
       ∧ (∀ (h : Head) (m : Member), f.members.get h = some m →
           ∃ e : HeadEntry, r.heads.get h = some e ∧ e.outcome = m.outcome.getD .lostPower ∧ e.ticket = m.ticket)
       ∧ (∀ h : Head, f.members.get h = none → r.heads.get h = none)
       ∧ t.sched.skipped = 0 ∧ t.sched.anchor = s.sched.anchor ∧ t.ramps = s.ramps
       ∧ (∀ e : Nat, s.plan.swapPending = some e → t.plan.active = s.plan.active.other ∧ t.plan.index = e
           ∧ t.plan.swapPending = none)
       ∧ (s.plan.swapPending = none → t.plan = s.plan)
       ∧ ∀ h : Head, (t.heads.get h).miss = (s.heads.get h).miss)
  ∧ (∀ s : State, s.frame = none → s.sched.run = .running → 1 ≤ s.sched.interval →
     ∃ (t : State) (n : Nat), exec (.warmStart shown) s = .next t ∧ t.sched.run = .running
       ∧ t.sched.anchor = some ⟨s.time.count + 5, .start⟩
       ∧ (s.sched.due = none → n = 0)
       ∧ (∀ d : Int, s.sched.due = some d → ∀ j : Nat, j < n ↔ d + j * s.sched.interval < s.time.count + 5)
       ∧ (judgeVoltage s.settings s.energy.voltageTier (min (shows s.bsense).level 16383) = .halt →
           t.sched.due = none ∧ t.sched.openTime = none ∧ t.frame = none
             ∧ t.sched.skipped = min (s.sched.skipped + n) 65535)
       ∧ (judgeVoltage s.settings s.energy.voltageTier (min (shows s.bsense).level 16383) ≠ .halt → s.exhausted = false →
           (∀ h : Head, (s.settings.head.get h).lead ≤ 4) →
           t.frame = none ∧ t.sched.due = some (s.time.count + 5) ∧ t.sched.lastDue = some (s.time.count + 5)
             ∧ t.sched.openTime = some (s.time.count + 5 - (t.largestLead t.group : Int))
             ∧ t.sched.interval = min (s.plan.activePhase.interval * t.energy.effective.stretch) 86400
             ∧ t.sched.skipped = min (s.sched.skipped + n) 65535))
  ∧ (∀ (s : State) (f : Frame) (tier : Tier), s.frame = some f → s.sched.run = .running → 1 ≤ s.sched.interval →
     s.plan.swapPending = none → s.exhausted = false → (∀ h : Head, (s.settings.head.get h).lead ≤ 4) →
     tier = judgeVoltage s.settings s.energy.voltageTier (min (shows s.bsense).level 16383) → tier ≠ .halt →
     judgeVoltage s.settings tier (min (shows s.bsense).advance.level 16383) ≠ .halt →
     ∃ (t : State) (r : JournalRecord) (n : Nat), exec (.warmStart shown) s = .next t ∧ t.frame = none
       ∧ t.journal.ring = (if 256 ≤ s.journal.ring.length then s.journal.ring.drop 1 else s.journal.ring) ++ [r]
       ∧ r.sequence = f.sequence ∧ r.outcome = .lostPower
       ∧ (∀ j : Nat, j < n ↔ f.due + (j + 1) * s.sched.interval < s.time.count + 5)
       ∧ r.skipped = min (f.skipped + min (s.sched.skipped + n) 65535) 65535 ∧ t.sched.skipped = 0
       ∧ t.sched.anchor = some ⟨s.time.count + 5, .start⟩ ∧ t.sched.due = some (s.time.count + 5)
       ∧ t.plan = s.plan ∧ t.ramps = s.ramps)

/-! ## What every step keeps -/

/-- Reset has every relation of Sys2Proof/Safety.lean. -/
def Obligations.ResetIsGood : Prop :=
  State.reset.QueuesBounded ∧ State.reset.ErrorsBounded ∧ State.reset.TimersPlaced ∧ State.reset.TriggersFollowRails
    ∧ State.reset.AwakeOnlyInFrame ∧ State.reset.EffectiveIsWorse ∧ State.reset.JournalKept
    ∧ State.reset.CorrectionsBounded ∧ State.reset.PlanValid ∧ State.reset.SwapWaitsForFrame ∧ State.reset.DueTogether

/-- Every step keeps each transmit queue within four messages and each error count within 255. -/
def Obligations.StepKeepsPortsBounded : Prop :=
  ∀ s t : State, step s = .next t →
    (s.QueuesBounded → t.QueuesBounded) ∧ (s.ErrorsBounded → t.ErrorsBounded)

/-- Every step keeps each head's timers in their own states, and each trigger inactive with its bulb timer stopped while the
rail is off. Every step keeps heads awake only as members of the frame in flight. -/
def Obligations.StepKeepsHeadsInOrder : Prop :=
  (∀ s t : State, step s = .next t →
     (s.TimersPlaced → t.TimersPlaced) ∧ (s.TriggersFollowRails → t.TriggersFollowRails))
  ∧ (∀ s t : State, step s = .next t → s.AwakeOnlyInFrame → t.AwakeOnlyInFrame)

/-- Every step keeps the effective tier the worse of the voltage tier and the budget floor. Every step keeps every
correction within the correction limit, and the limit within 384. -/
def Obligations.StepKeepsTierAndCorrections : Prop :=
  (∀ s t : State, step s = .next t → s.EffectiveIsWorse → t.EffectiveIsWorse)
  ∧ (∀ s t : State, step s = .next t → s.CorrectionsBounded → t.CorrectionsBounded)

/-- Every step keeps the journal within 256 records of consecutive sequences below the next-sequence counter. -/
def Obligations.StepKeepsTheJournal : Prop :=
  ∀ s t : State, step s = .next t → s.JournalKept → t.JournalKept

/-- Every step keeps a validated plan in force and behind a pending swap, a pending swap only during a frame, and due time
and open time together and absent during a frame. -/
def Obligations.StepKeepsThePlanAndSchedule : Prop :=
  ∀ s t : State, step s = .next t →
    (s.PlanValid → t.PlanValid) ∧ (s.SwapWaitsForFrame → t.SwapWaitsForFrame) ∧ (s.DueTogether → t.DueTogether)
end

