-- ==== Sys2Proof/Laws/Codes.lean ====
section
/-! SUPPORT. Codes and fields there and back, and the arithmetic of clamping and of the ceiling quotient. -/

namespace Sys2Proof

theorem ofBytes2_extract (v : BitVec 16) : ofBytes2 (v.extractLsb' 0 8) (v.extractLsb' 8 8) = v := by
  unfold ofBytes2
  apply BitVec.eq_of_getLsbD_eq
  intro i hi
  simp only [BitVec.getLsbD_append, BitVec.getLsbD_extractLsb']
  split_ifs <;> simp <;> (try omega)
  rw [show 8 + (i - 8) = i by omega]
  simp
  omega

theorem ofBytes4_extract (v : BitVec 32) :
    ofBytes4 (v.extractLsb' 0 8) (v.extractLsb' 8 8) (v.extractLsb' 16 8) (v.extractLsb' 24 8) = v := by
  unfold ofBytes4
  apply BitVec.eq_of_getLsbD_eq
  intro i hi
  simp only [BitVec.getLsbD_append, BitVec.getLsbD_extractLsb']
  split_ifs <;> simp <;> (try omega) <;>
    (first
      | (rw [show 8 + (i - 8) = i by omega]; simp; omega)
      | (rw [show 16 + (i - 8 - 8) = i by omega]; simp; omega)
      | (rw [show 24 + (i - 8 - 8 - 8) = i by omega]; simp; omega))

theorem rawPhase_roundtrip (r : RawPhase) : rawPhaseOfBytes (bytesOfRawPhase r) = some r := by
  simp [bytesOfRawPhase, toBytes2, toBytes4, rawPhaseOfBytes, ofBytes2_extract, ofBytes4_extract]

theorem rawSegments_roundtrip (l : List RawSegment) : rawSegmentsOfBytes (bytesOfRawSegments l) = some l := by
  induction l with
  | nil => rfl
  | cons r rest ih => simp [bytesOfRawSegments, toBytes2, rawSegmentsOfBytes, ih, ofBytes2_extract]

namespace Machine

theorem portOfNat_code (q : Port) : portOfNat (portCode q) = some q := by cases q <;> rfl

theorem headOfNat_code (h : Head) : headOfNat (headCode h) = some h := by cases h <;> rfl

theorem portOfNat_none {n : Nat} (h : 5 < n) : portOfNat n = none := by
  unfold portOfNat; split <;> first | omega | rfl

theorem headOfNat_none {n : Nat} (h : 3 < n) : headOfNat n = none := by
  unfold headOfNat; split <;> first | omega | rfl

theorem portHead_headPort (h : Head) : portHead? (headPort h) = some h := by cases h <;> rfl

theorem headPort_ne {g h : Head} (e : g ≠ h) : headPort g ≠ headPort h := by
  cases g <;> cases h <;> simp_all [headPort]

/-- A port that may send station kinds is no head port. -/
theorem station_ne_headPort {p : Port} (h : Head) (hp : permitted .station p = true) : p ≠ headPort h := by
  cases p <;> cases h <;> simp_all [permitted, portStation?, headPort]

theorem hasEvent_or_mask (x : EventField) (e : Event) : hasEvent (x ||| e.mask) e = true := by
  cases e <;> simp [hasEvent, Event.mask, Event.position]

theorem clampNat_eq {lo hi : Nat} (v : Nat) (h : lo ≤ hi) : clampNat lo hi v = max lo (min v hi) := by
  unfold clampNat; split_ifs <;> omega

theorem clampInt_eq {lo hi : Int} (v : Int) (h : lo ≤ hi) : clampInt lo hi v = max lo (min v hi) := by
  unfold clampInt; split_ifs <;> omega

/-- The ceiling quotient is the least factor that reaches the number. -/
theorem ceilDiv_least (a b : Int) (hb : 0 < b) : a ≤ ceilDiv a b * b ∧ ∀ j : Int, j < ceilDiv a b → j * b < a := by
  unfold ceilDiv
  have h1 := Int.emod_add_mul_ediv (-a) b
  have h2 := Int.emod_nonneg (-a) (by omega : b ≠ 0)
  have h3 := Int.emod_lt_of_pos (-a) hb
  have e : -(-a / b) * b = -(b * (-a / b)) := by ring
  refine ⟨by omega, fun j hj => ?_⟩
  have h5 : (j + 1) * b ≤ -(-a / b) * b := Int.mul_le_mul_of_nonneg_right (by omega) (by omega)
  have : (j + 1) * b = j * b + b := by ring
  omega

theorem ErrorCounts.count_bump (e : ErrorCounts) (k j : LineError) :
    (e.bump k).count j = if j = k then min (e.count k + 1) 255 else e.count j := by
  cases k <;> cases j <;> simp [ErrorCounts.bump, ErrorCounts.count, saturate]

end Machine

end Sys2Proof
end

