-- ==== Sys2Proof/Laws/State.lean ====
section
/-! SUPPORT. Reading back what was written: the get and set of the four kinds of table, and one lemma per field for each of the
operations that change one head, trigger, port, ramp record, accumulator or station. -/

namespace Sys2Proof.Machine

/-! ## Tables -/

@[simp] theorem Four.get_set_self {α : Type} (v : Four α) (i : Head) (a : α) : (v.set i a).get i = a := by cases i <;> rfl

@[simp] theorem Four.get_set_ne {α : Type} (v : Four α) {i j : Head} (a : α) (h : j ≠ i) : (v.set i a).get j = v.get j := by
  cases i <;> cases j <;> first | rfl | exact absurd rfl h

theorem Four.get_set {α : Type} (v : Four α) (i j : Head) (a : α) : (v.set i a).get j = if j = i then a else v.get j := by
  cases i <;> cases j <;> rfl

@[simp] theorem Four.set_set {α : Type} (v : Four α) (i : Head) (a b : α) : (v.set i a).set i b = v.set i b := by
  cases i <;> rfl

@[simp] theorem Four.set_get {α : Type} (v : Four α) (i : Head) : v.set i (v.get i) = v := by cases i <;> rfl

theorem Four.set_comm {α : Type} (v : Four α) {i j : Head} (a b : α) (h : i ≠ j) :
    (v.set i a).set j b = (v.set j b).set i a := by
  cases i <;> cases j <;> first | rfl | exact absurd rfl h

@[simp] theorem Four.get_all {α : Type} (a : α) (i : Head) : (Four.all a).get i = a := by cases i <;> rfl

theorem Four.ext_get {α : Type} {v w : Four α} (h : ∀ i : Head, v.get i = w.get i) : v = w := by
  cases v; cases w
  have e0 := h .h0
  have e1 := h .h1
  have e2 := h .h2
  have e3 := h .h3
  simp only [Four.get] at e0 e1 e2 e3
  simp only [e0, e1, e2, e3]

@[simp] theorem Six.get_set_self {α : Type} (v : Six α) (i : Port) (a : α) : (v.set i a).get i = a := by cases i <;> rfl

@[simp] theorem Six.get_set_ne {α : Type} (v : Six α) {i j : Port} (a : α) (h : j ≠ i) : (v.set i a).get j = v.get j := by
  cases i <;> cases j <;> first | rfl | exact absurd rfl h

theorem Six.get_set {α : Type} (v : Six α) (i j : Port) (a : α) : (v.set i a).get j = if j = i then a else v.get j := by
  cases i <;> cases j <;> rfl

@[simp] theorem Six.set_set {α : Type} (v : Six α) (i : Port) (a b : α) : (v.set i a).set i b = v.set i b := by
  cases i <;> rfl

@[simp] theorem Six.set_get {α : Type} (v : Six α) (i : Port) : v.set i (v.get i) = v := by cases i <;> rfl

theorem Six.set_comm {α : Type} (v : Six α) {i j : Port} (a b : α) (h : i ≠ j) :
    (v.set i a).set j b = (v.set j b).set i a := by
  cases i <;> cases j <;> first | rfl | exact absurd rfl h

@[simp] theorem Six.get_all {α : Type} (a : α) (i : Port) : (Six.all a).get i = a := by cases i <;> rfl

theorem Six.ext_get {α : Type} {v w : Six α} (h : ∀ i : Port, v.get i = w.get i) : v = w := by
  cases v; cases w
  have e0 := h .h0
  have e1 := h .h1
  have e2 := h .h2
  have e3 := h .h3
  have e4 := h .ul
  have e5 := h .sv
  simp only [Six.get] at e0 e1 e2 e3 e4 e5
  simp only [e0, e1, e2, e3, e4, e5]

@[simp] theorem Two.get_set_self {α : Type} (v : Two α) (i : Station) (a : α) : (v.set i a).get i = a := by cases i <;> rfl

@[simp] theorem Two.get_set_ne {α : Type} (v : Two α) {i j : Station} (a : α) (h : j ≠ i) : (v.set i a).get j = v.get j := by
  cases i <;> cases j <;> first | rfl | exact absurd rfl h

theorem Two.get_set {α : Type} (v : Two α) (i j : Station) (a : α) : (v.set i a).get j = if j = i then a else v.get j := by
  cases i <;> cases j <;> rfl

@[simp] theorem Two.set_set {α : Type} (v : Two α) (i : Station) (a b : α) : (v.set i a).set i b = v.set i b := by
  cases i <;> rfl

@[simp] theorem Two.set_get {α : Type} (v : Two α) (i : Station) : v.set i (v.get i) = v := by cases i <;> rfl

theorem Two.set_comm {α : Type} (v : Two α) {i j : Station} (a b : α) (h : i ≠ j) :
    (v.set i a).set j b = (v.set j b).set i a := by
  cases i <;> cases j <;> first | rfl | exact absurd rfl h

@[simp] theorem Two.get_all {α : Type} (a : α) (i : Station) : (Two.all a).get i = a := by cases i <;> rfl

theorem Two.ext_get {α : Type} {v w : Two α} (h : ∀ i : Station, v.get i = w.get i) : v = w := by
  cases v; cases w
  have e0 := h .ul
  have e1 := h .sv
  simp only [Two.get] at e0 e1
  simp only [e0, e1]

@[simp] theorem Eight.get_set_self {α : Type} (v : Eight α) (i : Idx) (a : α) : (v.set i a).get i = a := by cases i <;> rfl

@[simp] theorem Eight.get_set_ne {α : Type} (v : Eight α) {i j : Idx} (a : α) (h : j ≠ i) : (v.set i a).get j = v.get j := by
  cases i <;> cases j <;> first | rfl | exact absurd rfl h

theorem Eight.get_set {α : Type} (v : Eight α) (i j : Idx) (a : α) : (v.set i a).get j = if j = i then a else v.get j := by
  cases i <;> cases j <;> rfl

@[simp] theorem Eight.set_set {α : Type} (v : Eight α) (i : Idx) (a b : α) : (v.set i a).set i b = v.set i b := by
  cases i <;> rfl

@[simp] theorem Eight.set_get {α : Type} (v : Eight α) (i : Idx) : v.set i (v.get i) = v := by cases i <;> rfl

theorem Eight.set_comm {α : Type} (v : Eight α) {i j : Idx} (a b : α) (h : i ≠ j) :
    (v.set i a).set j b = (v.set j b).set i a := by
  cases i <;> cases j <;> first | rfl | exact absurd rfl h

@[simp] theorem Eight.get_all {α : Type} (a : α) (i : Idx) : (Eight.all a).get i = a := by cases i <;> rfl

theorem Eight.ext_get {α : Type} {v w : Eight α} (h : ∀ i : Idx, v.get i = w.get i) : v = w := by
  cases v; cases w
  have e0 := h .i0
  have e1 := h .i1
  have e2 := h .i2
  have e3 := h .i3
  have e4 := h .i4
  have e5 := h .i5
  have e6 := h .i6
  have e7 := h .i7
  simp only [Eight.get] at e0 e1 e2 e3 e4 e5 e6 e7
  simp only [e0, e1, e2, e3, e4, e5, e6, e7]

/-! ## State.modHead -/

@[simp] theorem State.modHead_supply (s : State) (h : Head) (g : HeadSeq → HeadSeq) :
    (s.modHead h g).supply = s.supply := rfl
@[simp] theorem State.modHead_bsense (s : State) (h : Head) (g : HeadSeq → HeadSeq) :
    (s.modHead h g).bsense = s.bsense := rfl
@[simp] theorem State.modHead_time (s : State) (h : Head) (g : HeadSeq → HeadSeq) :
    (s.modHead h g).time = s.time := rfl
@[simp] theorem State.modHead_sched (s : State) (h : Head) (g : HeadSeq → HeadSeq) :
    (s.modHead h g).sched = s.sched := rfl
@[simp] theorem State.modHead_plan (s : State) (h : Head) (g : HeadSeq → HeadSeq) :
    (s.modHead h g).plan = s.plan := rfl
@[simp] theorem State.modHead_meter (s : State) (h : Head) (g : HeadSeq → HeadSeq) :
    (s.modHead h g).meter = s.meter := rfl
@[simp] theorem State.modHead_ramps (s : State) (h : Head) (g : HeadSeq → HeadSeq) :
    (s.modHead h g).ramps = s.ramps := rfl
@[simp] theorem State.modHead_frame (s : State) (h : Head) (g : HeadSeq → HeadSeq) :
    (s.modHead h g).frame = s.frame := rfl
@[simp] theorem State.modHead_armTimer (s : State) (h : Head) (g : HeadSeq → HeadSeq) :
    (s.modHead h g).armTimer = s.armTimer := rfl
@[simp] theorem State.modHead_triggers (s : State) (h : Head) (g : HeadSeq → HeadSeq) :
    (s.modHead h g).triggers = s.triggers := rfl
@[simp] theorem State.modHead_heads (s : State) (h : Head) (g : HeadSeq → HeadSeq) :
    (s.modHead h g).heads = s.heads.set h (g (s.heads.get h)) := rfl
@[simp] theorem State.modHead_energy (s : State) (h : Head) (g : HeadSeq → HeadSeq) :
    (s.modHead h g).energy = s.energy := rfl
@[simp] theorem State.modHead_journal (s : State) (h : Head) (g : HeadSeq → HeadSeq) :
    (s.modHead h g).journal = s.journal := rfl
@[simp] theorem State.modHead_ports (s : State) (h : Head) (g : HeadSeq → HeadSeq) :
    (s.modHead h g).ports = s.ports := rfl
@[simp] theorem State.modHead_stations (s : State) (h : Head) (g : HeadSeq → HeadSeq) :
    (s.modHead h g).stations = s.stations := rfl
@[simp] theorem State.modHead_windows (s : State) (h : Head) (g : HeadSeq → HeadSeq) :
    (s.modHead h g).windows = s.windows := rfl
@[simp] theorem State.modHead_flags (s : State) (h : Head) (g : HeadSeq → HeadSeq) :
    (s.modHead h g).flags = s.flags := rfl
@[simp] theorem State.modHead_settings (s : State) (h : Head) (g : HeadSeq → HeadSeq) :
    (s.modHead h g).settings = s.settings := rfl
@[simp] theorem State.modHead_pending (s : State) (h : Head) (g : HeadSeq → HeadSeq) :
    (s.modHead h g).pending = s.pending := rfl

/-! ## State.modTrigger -/

@[simp] theorem State.modTrigger_supply (s : State) (h : Head) (g : Trigger → Trigger) :
    (s.modTrigger h g).supply = s.supply := rfl
@[simp] theorem State.modTrigger_bsense (s : State) (h : Head) (g : Trigger → Trigger) :
    (s.modTrigger h g).bsense = s.bsense := rfl
@[simp] theorem State.modTrigger_time (s : State) (h : Head) (g : Trigger → Trigger) :
    (s.modTrigger h g).time = s.time := rfl
@[simp] theorem State.modTrigger_sched (s : State) (h : Head) (g : Trigger → Trigger) :
    (s.modTrigger h g).sched = s.sched := rfl
@[simp] theorem State.modTrigger_plan (s : State) (h : Head) (g : Trigger → Trigger) :
    (s.modTrigger h g).plan = s.plan := rfl
@[simp] theorem State.modTrigger_meter (s : State) (h : Head) (g : Trigger → Trigger) :
    (s.modTrigger h g).meter = s.meter := rfl
@[simp] theorem State.modTrigger_ramps (s : State) (h : Head) (g : Trigger → Trigger) :
    (s.modTrigger h g).ramps = s.ramps := rfl
@[simp] theorem State.modTrigger_frame (s : State) (h : Head) (g : Trigger → Trigger) :
    (s.modTrigger h g).frame = s.frame := rfl
@[simp] theorem State.modTrigger_armTimer (s : State) (h : Head) (g : Trigger → Trigger) :
    (s.modTrigger h g).armTimer = s.armTimer := rfl
@[simp] theorem State.modTrigger_triggers (s : State) (h : Head) (g : Trigger → Trigger) :
    (s.modTrigger h g).triggers = s.triggers.set h (g (s.triggers.get h)) := rfl
@[simp] theorem State.modTrigger_heads (s : State) (h : Head) (g : Trigger → Trigger) :
    (s.modTrigger h g).heads = s.heads := rfl
@[simp] theorem State.modTrigger_energy (s : State) (h : Head) (g : Trigger → Trigger) :
    (s.modTrigger h g).energy = s.energy := rfl
@[simp] theorem State.modTrigger_journal (s : State) (h : Head) (g : Trigger → Trigger) :
    (s.modTrigger h g).journal = s.journal := rfl
@[simp] theorem State.modTrigger_ports (s : State) (h : Head) (g : Trigger → Trigger) :
    (s.modTrigger h g).ports = s.ports := rfl
@[simp] theorem State.modTrigger_stations (s : State) (h : Head) (g : Trigger → Trigger) :
    (s.modTrigger h g).stations = s.stations := rfl
@[simp] theorem State.modTrigger_windows (s : State) (h : Head) (g : Trigger → Trigger) :
    (s.modTrigger h g).windows = s.windows := rfl
@[simp] theorem State.modTrigger_flags (s : State) (h : Head) (g : Trigger → Trigger) :
    (s.modTrigger h g).flags = s.flags := rfl
@[simp] theorem State.modTrigger_settings (s : State) (h : Head) (g : Trigger → Trigger) :
    (s.modTrigger h g).settings = s.settings := rfl
@[simp] theorem State.modTrigger_pending (s : State) (h : Head) (g : Trigger → Trigger) :
    (s.modTrigger h g).pending = s.pending := rfl

/-! ## State.modPort -/

@[simp] theorem State.modPort_supply (s : State) (p : Port) (g : PortState → PortState) :
    (s.modPort p g).supply = s.supply := rfl
@[simp] theorem State.modPort_bsense (s : State) (p : Port) (g : PortState → PortState) :
    (s.modPort p g).bsense = s.bsense := rfl
@[simp] theorem State.modPort_time (s : State) (p : Port) (g : PortState → PortState) :
    (s.modPort p g).time = s.time := rfl
@[simp] theorem State.modPort_sched (s : State) (p : Port) (g : PortState → PortState) :
    (s.modPort p g).sched = s.sched := rfl
@[simp] theorem State.modPort_plan (s : State) (p : Port) (g : PortState → PortState) :
    (s.modPort p g).plan = s.plan := rfl
@[simp] theorem State.modPort_meter (s : State) (p : Port) (g : PortState → PortState) :
    (s.modPort p g).meter = s.meter := rfl
@[simp] theorem State.modPort_ramps (s : State) (p : Port) (g : PortState → PortState) :
    (s.modPort p g).ramps = s.ramps := rfl
@[simp] theorem State.modPort_frame (s : State) (p : Port) (g : PortState → PortState) :
    (s.modPort p g).frame = s.frame := rfl
@[simp] theorem State.modPort_armTimer (s : State) (p : Port) (g : PortState → PortState) :
    (s.modPort p g).armTimer = s.armTimer := rfl
@[simp] theorem State.modPort_triggers (s : State) (p : Port) (g : PortState → PortState) :
    (s.modPort p g).triggers = s.triggers := rfl
@[simp] theorem State.modPort_heads (s : State) (p : Port) (g : PortState → PortState) :
    (s.modPort p g).heads = s.heads := rfl
@[simp] theorem State.modPort_energy (s : State) (p : Port) (g : PortState → PortState) :
    (s.modPort p g).energy = s.energy := rfl
@[simp] theorem State.modPort_journal (s : State) (p : Port) (g : PortState → PortState) :
    (s.modPort p g).journal = s.journal := rfl
@[simp] theorem State.modPort_ports (s : State) (p : Port) (g : PortState → PortState) :
    (s.modPort p g).ports = s.ports.set p (g (s.ports.get p)) := rfl
@[simp] theorem State.modPort_stations (s : State) (p : Port) (g : PortState → PortState) :
    (s.modPort p g).stations = s.stations := rfl
@[simp] theorem State.modPort_windows (s : State) (p : Port) (g : PortState → PortState) :
    (s.modPort p g).windows = s.windows := rfl
@[simp] theorem State.modPort_flags (s : State) (p : Port) (g : PortState → PortState) :
    (s.modPort p g).flags = s.flags := rfl
@[simp] theorem State.modPort_settings (s : State) (p : Port) (g : PortState → PortState) :
    (s.modPort p g).settings = s.settings := rfl
@[simp] theorem State.modPort_pending (s : State) (p : Port) (g : PortState → PortState) :
    (s.modPort p g).pending = s.pending := rfl

/-! ## State.modRamp -/

@[simp] theorem State.modRamp_supply (s : State) (h : Head) (g : RampRecord → RampRecord) :
    (s.modRamp h g).supply = s.supply := rfl
@[simp] theorem State.modRamp_bsense (s : State) (h : Head) (g : RampRecord → RampRecord) :
    (s.modRamp h g).bsense = s.bsense := rfl
@[simp] theorem State.modRamp_time (s : State) (h : Head) (g : RampRecord → RampRecord) :
    (s.modRamp h g).time = s.time := rfl
@[simp] theorem State.modRamp_sched (s : State) (h : Head) (g : RampRecord → RampRecord) :
    (s.modRamp h g).sched = s.sched := rfl
@[simp] theorem State.modRamp_plan (s : State) (h : Head) (g : RampRecord → RampRecord) :
    (s.modRamp h g).plan = s.plan := rfl
@[simp] theorem State.modRamp_meter (s : State) (h : Head) (g : RampRecord → RampRecord) :
    (s.modRamp h g).meter = s.meter := rfl
@[simp] theorem State.modRamp_ramps (s : State) (h : Head) (g : RampRecord → RampRecord) :
    (s.modRamp h g).ramps = s.ramps.set h (g (s.ramps.get h)) := rfl
@[simp] theorem State.modRamp_frame (s : State) (h : Head) (g : RampRecord → RampRecord) :
    (s.modRamp h g).frame = s.frame := rfl
@[simp] theorem State.modRamp_armTimer (s : State) (h : Head) (g : RampRecord → RampRecord) :
    (s.modRamp h g).armTimer = s.armTimer := rfl
@[simp] theorem State.modRamp_triggers (s : State) (h : Head) (g : RampRecord → RampRecord) :
    (s.modRamp h g).triggers = s.triggers := rfl
@[simp] theorem State.modRamp_heads (s : State) (h : Head) (g : RampRecord → RampRecord) :
    (s.modRamp h g).heads = s.heads := rfl
@[simp] theorem State.modRamp_energy (s : State) (h : Head) (g : RampRecord → RampRecord) :
    (s.modRamp h g).energy = s.energy := rfl
@[simp] theorem State.modRamp_journal (s : State) (h : Head) (g : RampRecord → RampRecord) :
    (s.modRamp h g).journal = s.journal := rfl
@[simp] theorem State.modRamp_ports (s : State) (h : Head) (g : RampRecord → RampRecord) :
    (s.modRamp h g).ports = s.ports := rfl
@[simp] theorem State.modRamp_stations (s : State) (h : Head) (g : RampRecord → RampRecord) :
    (s.modRamp h g).stations = s.stations := rfl
@[simp] theorem State.modRamp_windows (s : State) (h : Head) (g : RampRecord → RampRecord) :
    (s.modRamp h g).windows = s.windows := rfl
@[simp] theorem State.modRamp_flags (s : State) (h : Head) (g : RampRecord → RampRecord) :
    (s.modRamp h g).flags = s.flags := rfl
@[simp] theorem State.modRamp_settings (s : State) (h : Head) (g : RampRecord → RampRecord) :
    (s.modRamp h g).settings = s.settings := rfl
@[simp] theorem State.modRamp_pending (s : State) (h : Head) (g : RampRecord → RampRecord) :
    (s.modRamp h g).pending = s.pending := rfl

/-! ## State.modOnTime -/

@[simp] theorem State.modOnTime_supply (s : State) (h : Head) (g : OnTime → OnTime) :
    (s.modOnTime h g).supply = s.supply := rfl
@[simp] theorem State.modOnTime_bsense (s : State) (h : Head) (g : OnTime → OnTime) :
    (s.modOnTime h g).bsense = s.bsense := rfl
@[simp] theorem State.modOnTime_time (s : State) (h : Head) (g : OnTime → OnTime) :
    (s.modOnTime h g).time = s.time := rfl
@[simp] theorem State.modOnTime_sched (s : State) (h : Head) (g : OnTime → OnTime) :
    (s.modOnTime h g).sched = s.sched := rfl
@[simp] theorem State.modOnTime_plan (s : State) (h : Head) (g : OnTime → OnTime) :
    (s.modOnTime h g).plan = s.plan := rfl
@[simp] theorem State.modOnTime_meter (s : State) (h : Head) (g : OnTime → OnTime) :
    (s.modOnTime h g).meter = s.meter := rfl
@[simp] theorem State.modOnTime_ramps (s : State) (h : Head) (g : OnTime → OnTime) :
    (s.modOnTime h g).ramps = s.ramps := rfl
@[simp] theorem State.modOnTime_frame (s : State) (h : Head) (g : OnTime → OnTime) :
    (s.modOnTime h g).frame = s.frame := rfl
@[simp] theorem State.modOnTime_armTimer (s : State) (h : Head) (g : OnTime → OnTime) :
    (s.modOnTime h g).armTimer = s.armTimer := rfl
@[simp] theorem State.modOnTime_triggers (s : State) (h : Head) (g : OnTime → OnTime) :
    (s.modOnTime h g).triggers = s.triggers := rfl
@[simp] theorem State.modOnTime_heads (s : State) (h : Head) (g : OnTime → OnTime) :
    (s.modOnTime h g).heads = s.heads := rfl
@[simp] theorem State.modOnTime_energy (s : State) (h : Head) (g : OnTime → OnTime) :
    (s.modOnTime h g).energy = { s.energy with onTime := s.energy.onTime.set h (g (s.energy.onTime.get h)) } := rfl
@[simp] theorem State.modOnTime_journal (s : State) (h : Head) (g : OnTime → OnTime) :
    (s.modOnTime h g).journal = s.journal := rfl
@[simp] theorem State.modOnTime_ports (s : State) (h : Head) (g : OnTime → OnTime) :
    (s.modOnTime h g).ports = s.ports := rfl
@[simp] theorem State.modOnTime_stations (s : State) (h : Head) (g : OnTime → OnTime) :
    (s.modOnTime h g).stations = s.stations := rfl
@[simp] theorem State.modOnTime_windows (s : State) (h : Head) (g : OnTime → OnTime) :
    (s.modOnTime h g).windows = s.windows := rfl
@[simp] theorem State.modOnTime_flags (s : State) (h : Head) (g : OnTime → OnTime) :
    (s.modOnTime h g).flags = s.flags := rfl
@[simp] theorem State.modOnTime_settings (s : State) (h : Head) (g : OnTime → OnTime) :
    (s.modOnTime h g).settings = s.settings := rfl
@[simp] theorem State.modOnTime_pending (s : State) (h : Head) (g : OnTime → OnTime) :
    (s.modOnTime h g).pending = s.pending := rfl

/-! ## State.modStation -/

@[simp] theorem State.modStation_supply (s : State) (st : Station) (g : StationState → StationState) :
    (s.modStation st g).supply = s.supply := rfl
@[simp] theorem State.modStation_bsense (s : State) (st : Station) (g : StationState → StationState) :
    (s.modStation st g).bsense = s.bsense := rfl
@[simp] theorem State.modStation_time (s : State) (st : Station) (g : StationState → StationState) :
    (s.modStation st g).time = s.time := rfl
@[simp] theorem State.modStation_sched (s : State) (st : Station) (g : StationState → StationState) :
    (s.modStation st g).sched = s.sched := rfl
@[simp] theorem State.modStation_plan (s : State) (st : Station) (g : StationState → StationState) :
    (s.modStation st g).plan = s.plan := rfl
@[simp] theorem State.modStation_meter (s : State) (st : Station) (g : StationState → StationState) :
    (s.modStation st g).meter = s.meter := rfl
@[simp] theorem State.modStation_ramps (s : State) (st : Station) (g : StationState → StationState) :
    (s.modStation st g).ramps = s.ramps := rfl
@[simp] theorem State.modStation_frame (s : State) (st : Station) (g : StationState → StationState) :
    (s.modStation st g).frame = s.frame := rfl
@[simp] theorem State.modStation_armTimer (s : State) (st : Station) (g : StationState → StationState) :
    (s.modStation st g).armTimer = s.armTimer := rfl
@[simp] theorem State.modStation_triggers (s : State) (st : Station) (g : StationState → StationState) :
    (s.modStation st g).triggers = s.triggers := rfl
@[simp] theorem State.modStation_heads (s : State) (st : Station) (g : StationState → StationState) :
    (s.modStation st g).heads = s.heads := rfl
@[simp] theorem State.modStation_energy (s : State) (st : Station) (g : StationState → StationState) :
    (s.modStation st g).energy = s.energy := rfl
@[simp] theorem State.modStation_journal (s : State) (st : Station) (g : StationState → StationState) :
    (s.modStation st g).journal = s.journal := rfl
@[simp] theorem State.modStation_ports (s : State) (st : Station) (g : StationState → StationState) :
    (s.modStation st g).ports = s.ports := rfl
@[simp] theorem State.modStation_stations (s : State) (st : Station) (g : StationState → StationState) :
    (s.modStation st g).stations = s.stations.set st (g (s.stations.get st)) := rfl
@[simp] theorem State.modStation_windows (s : State) (st : Station) (g : StationState → StationState) :
    (s.modStation st g).windows = s.windows := rfl
@[simp] theorem State.modStation_flags (s : State) (st : Station) (g : StationState → StationState) :
    (s.modStation st g).flags = s.flags := rfl
@[simp] theorem State.modStation_settings (s : State) (st : Station) (g : StationState → StationState) :
    (s.modStation st g).settings = s.settings := rfl
@[simp] theorem State.modStation_pending (s : State) (st : Station) (g : StationState → StationState) :
    (s.modStation st g).pending = s.pending := rfl

end Sys2Proof.Machine
end

