-- ==== Sys2Proof/Laws/Frames.lean ====
section
/-! SUPPORT. What each shared operation leaves as it was: one lemma per operation, over every field that it never writes. -/

namespace Sys2Proof.Machine

/-! ## Ports and stations -/

@[simp] theorem State.raiseAt_keeps (s : State) (st : Station) (e : Event) :
    (s.raiseAt st e).supply = s.supply ∧ (s.raiseAt st e).bsense = s.bsense ∧ (s.raiseAt st e).time = s.time
      ∧ (s.raiseAt st e).sched = s.sched ∧ (s.raiseAt st e).plan = s.plan ∧ (s.raiseAt st e).meter = s.meter
      ∧ (s.raiseAt st e).ramps = s.ramps ∧ (s.raiseAt st e).frame = s.frame ∧ (s.raiseAt st e).armTimer = s.armTimer
      ∧ (s.raiseAt st e).triggers = s.triggers ∧ (s.raiseAt st e).heads = s.heads
      ∧ (s.raiseAt st e).energy = s.energy ∧ (s.raiseAt st e).journal = s.journal ∧ (s.raiseAt st e).ports = s.ports
      ∧ (s.raiseAt st e).windows = s.windows ∧ (s.raiseAt st e).flags = s.flags
      ∧ (s.raiseAt st e).settings = s.settings ∧ (s.raiseAt st e).pending = s.pending := by
  simp only [State.raiseAt]; simp

@[simp] theorem State.raiseBoth_keeps (s : State) (e : Event) :
    (s.raiseBoth e).supply = s.supply ∧ (s.raiseBoth e).bsense = s.bsense ∧ (s.raiseBoth e).time = s.time
      ∧ (s.raiseBoth e).sched = s.sched ∧ (s.raiseBoth e).plan = s.plan ∧ (s.raiseBoth e).meter = s.meter
      ∧ (s.raiseBoth e).ramps = s.ramps ∧ (s.raiseBoth e).frame = s.frame ∧ (s.raiseBoth e).armTimer = s.armTimer
      ∧ (s.raiseBoth e).triggers = s.triggers ∧ (s.raiseBoth e).heads = s.heads ∧ (s.raiseBoth e).energy = s.energy
      ∧ (s.raiseBoth e).journal = s.journal ∧ (s.raiseBoth e).ports = s.ports ∧ (s.raiseBoth e).windows = s.windows
      ∧ (s.raiseBoth e).flags = s.flags ∧ (s.raiseBoth e).settings = s.settings
      ∧ (s.raiseBoth e).pending = s.pending := by
  simp only [State.raiseBoth]; simp

@[simp] theorem State.rxToHunt_keeps (s : State) (p : Port) :
    (s.rxToHunt p).supply = s.supply ∧ (s.rxToHunt p).bsense = s.bsense ∧ (s.rxToHunt p).time = s.time
      ∧ (s.rxToHunt p).sched = s.sched ∧ (s.rxToHunt p).plan = s.plan ∧ (s.rxToHunt p).meter = s.meter
      ∧ (s.rxToHunt p).ramps = s.ramps ∧ (s.rxToHunt p).frame = s.frame ∧ (s.rxToHunt p).armTimer = s.armTimer
      ∧ (s.rxToHunt p).triggers = s.triggers ∧ (s.rxToHunt p).heads = s.heads ∧ (s.rxToHunt p).energy = s.energy
      ∧ (s.rxToHunt p).journal = s.journal ∧ (s.rxToHunt p).stations = s.stations
      ∧ (s.rxToHunt p).windows = s.windows ∧ (s.rxToHunt p).flags = s.flags ∧ (s.rxToHunt p).settings = s.settings
      ∧ (s.rxToHunt p).pending = s.pending := by
  simp only [State.rxToHunt]; simp

@[simp] theorem State.enqueue_keeps (s : State) (p : Port) (m : Message) :
    (s.enqueue p m).supply = s.supply ∧ (s.enqueue p m).bsense = s.bsense ∧ (s.enqueue p m).time = s.time
      ∧ (s.enqueue p m).sched = s.sched ∧ (s.enqueue p m).plan = s.plan ∧ (s.enqueue p m).meter = s.meter
      ∧ (s.enqueue p m).ramps = s.ramps ∧ (s.enqueue p m).frame = s.frame ∧ (s.enqueue p m).armTimer = s.armTimer
      ∧ (s.enqueue p m).triggers = s.triggers ∧ (s.enqueue p m).heads = s.heads ∧ (s.enqueue p m).energy = s.energy
      ∧ (s.enqueue p m).journal = s.journal ∧ (s.enqueue p m).stations = s.stations
      ∧ (s.enqueue p m).windows = s.windows ∧ (s.enqueue p m).flags = s.flags
      ∧ (s.enqueue p m).settings = s.settings ∧ (s.enqueue p m).pending = s.pending := by
  simp only [State.enqueue]; (repeat' split) <;> simp

@[simp] theorem State.clearEvents_keeps (s : State) (p : Port) :
    (s.clearEvents p).supply = s.supply ∧ (s.clearEvents p).bsense = s.bsense ∧ (s.clearEvents p).time = s.time
      ∧ (s.clearEvents p).sched = s.sched ∧ (s.clearEvents p).plan = s.plan ∧ (s.clearEvents p).meter = s.meter
      ∧ (s.clearEvents p).ramps = s.ramps ∧ (s.clearEvents p).frame = s.frame
      ∧ (s.clearEvents p).armTimer = s.armTimer ∧ (s.clearEvents p).triggers = s.triggers
      ∧ (s.clearEvents p).heads = s.heads ∧ (s.clearEvents p).energy = s.energy
      ∧ (s.clearEvents p).journal = s.journal ∧ (s.clearEvents p).ports = s.ports
      ∧ (s.clearEvents p).windows = s.windows ∧ (s.clearEvents p).flags = s.flags
      ∧ (s.clearEvents p).settings = s.settings ∧ (s.clearEvents p).pending = s.pending := by
  simp only [State.clearEvents]; (repeat' split) <;> simp

@[simp] theorem State.resetPort_keeps (s : State) (p : Port) :
    (s.resetPort p).supply = s.supply ∧ (s.resetPort p).bsense = s.bsense ∧ (s.resetPort p).time = s.time
      ∧ (s.resetPort p).sched = s.sched ∧ (s.resetPort p).plan = s.plan ∧ (s.resetPort p).meter = s.meter
      ∧ (s.resetPort p).ramps = s.ramps ∧ (s.resetPort p).frame = s.frame ∧ (s.resetPort p).armTimer = s.armTimer
      ∧ (s.resetPort p).triggers = s.triggers ∧ (s.resetPort p).heads = s.heads ∧ (s.resetPort p).energy = s.energy
      ∧ (s.resetPort p).journal = s.journal ∧ (s.resetPort p).windows = s.windows
      ∧ (s.resetPort p).settings = s.settings ∧ (s.resetPort p).pending = s.pending := by
  simp only [State.resetPort]; simp

@[simp] theorem State.judgeThreshold_keeps (s : State) (p : Port) :
    (s.judgeThreshold p).supply = s.supply ∧ (s.judgeThreshold p).bsense = s.bsense
      ∧ (s.judgeThreshold p).time = s.time ∧ (s.judgeThreshold p).sched = s.sched
      ∧ (s.judgeThreshold p).plan = s.plan ∧ (s.judgeThreshold p).meter = s.meter
      ∧ (s.judgeThreshold p).ramps = s.ramps ∧ (s.judgeThreshold p).frame = s.frame
      ∧ (s.judgeThreshold p).armTimer = s.armTimer ∧ (s.judgeThreshold p).triggers = s.triggers
      ∧ (s.judgeThreshold p).heads = s.heads ∧ (s.judgeThreshold p).energy = s.energy
      ∧ (s.judgeThreshold p).journal = s.journal ∧ (s.judgeThreshold p).windows = s.windows
      ∧ (s.judgeThreshold p).flags = s.flags ∧ (s.judgeThreshold p).settings = s.settings
      ∧ (s.judgeThreshold p).pending = s.pending := by
  simp only [State.judgeThreshold]; (repeat' split) <;> simp

@[simp] theorem State.countError_keeps (s : State) (p : Port) (k : LineError) :
    (s.countError p k).supply = s.supply ∧ (s.countError p k).bsense = s.bsense ∧ (s.countError p k).time = s.time
      ∧ (s.countError p k).sched = s.sched ∧ (s.countError p k).plan = s.plan ∧ (s.countError p k).meter = s.meter
      ∧ (s.countError p k).ramps = s.ramps ∧ (s.countError p k).frame = s.frame
      ∧ (s.countError p k).armTimer = s.armTimer ∧ (s.countError p k).triggers = s.triggers
      ∧ (s.countError p k).heads = s.heads ∧ (s.countError p k).energy = s.energy
      ∧ (s.countError p k).journal = s.journal ∧ (s.countError p k).windows = s.windows
      ∧ (s.countError p k).flags = s.flags ∧ (s.countError p k).settings = s.settings
      ∧ (s.countError p k).pending = s.pending := by
  simp only [State.countError]; (repeat' split) <;> simp

/-! ## Energy -/

@[simp] theorem State.judgeFloor_keeps (s : State) :
    (s.judgeFloor).supply = s.supply ∧ (s.judgeFloor).bsense = s.bsense ∧ (s.judgeFloor).time = s.time
      ∧ (s.judgeFloor).sched = s.sched ∧ (s.judgeFloor).plan = s.plan ∧ (s.judgeFloor).meter = s.meter
      ∧ (s.judgeFloor).ramps = s.ramps ∧ (s.judgeFloor).frame = s.frame ∧ (s.judgeFloor).armTimer = s.armTimer
      ∧ (s.judgeFloor).triggers = s.triggers ∧ (s.judgeFloor).heads = s.heads ∧ (s.judgeFloor).journal = s.journal
      ∧ (s.judgeFloor).ports = s.ports ∧ (s.judgeFloor).stations = s.stations ∧ (s.judgeFloor).windows = s.windows
      ∧ (s.judgeFloor).flags = s.flags ∧ (s.judgeFloor).settings = s.settings ∧ (s.judgeFloor).pending = s.pending := by
  simp only [State.judgeFloor]; simp

@[simp] theorem State.judgeTier_keeps (s : State) :
    (s.judgeTier).supply = s.supply ∧ (s.judgeTier).bsense = s.bsense ∧ (s.judgeTier).time = s.time
      ∧ (s.judgeTier).sched = s.sched ∧ (s.judgeTier).plan = s.plan ∧ (s.judgeTier).meter = s.meter
      ∧ (s.judgeTier).ramps = s.ramps ∧ (s.judgeTier).frame = s.frame ∧ (s.judgeTier).armTimer = s.armTimer
      ∧ (s.judgeTier).triggers = s.triggers ∧ (s.judgeTier).heads = s.heads ∧ (s.judgeTier).journal = s.journal
      ∧ (s.judgeTier).ports = s.ports ∧ (s.judgeTier).windows = s.windows ∧ (s.judgeTier).flags = s.flags
      ∧ (s.judgeTier).settings = s.settings ∧ (s.judgeTier).pending = s.pending := by
  simp only [State.judgeTier]; (repeat' split) <;> simp

@[simp] theorem State.addCharge_keeps (s : State) (h : Head) :
    (s.addCharge h).supply = s.supply ∧ (s.addCharge h).bsense = s.bsense ∧ (s.addCharge h).time = s.time
      ∧ (s.addCharge h).sched = s.sched ∧ (s.addCharge h).plan = s.plan ∧ (s.addCharge h).meter = s.meter
      ∧ (s.addCharge h).ramps = s.ramps ∧ (s.addCharge h).frame = s.frame ∧ (s.addCharge h).armTimer = s.armTimer
      ∧ (s.addCharge h).triggers = s.triggers ∧ (s.addCharge h).heads = s.heads
      ∧ (s.addCharge h).journal = s.journal ∧ (s.addCharge h).ports = s.ports
      ∧ (s.addCharge h).stations = s.stations ∧ (s.addCharge h).windows = s.windows
      ∧ (s.addCharge h).flags = s.flags ∧ (s.addCharge h).settings = s.settings
      ∧ (s.addCharge h).pending = s.pending := by
  simp only [State.addCharge]; simp

@[simp] theorem State.account_keeps (s : State) (h : Head) :
    (s.account h).supply = s.supply ∧ (s.account h).bsense = s.bsense ∧ (s.account h).time = s.time
      ∧ (s.account h).sched = s.sched ∧ (s.account h).plan = s.plan ∧ (s.account h).meter = s.meter
      ∧ (s.account h).ramps = s.ramps ∧ (s.account h).frame = s.frame ∧ (s.account h).armTimer = s.armTimer
      ∧ (s.account h).triggers = s.triggers ∧ (s.account h).heads = s.heads ∧ (s.account h).journal = s.journal
      ∧ (s.account h).ports = s.ports ∧ (s.account h).windows = s.windows ∧ (s.account h).flags = s.flags
      ∧ (s.account h).settings = s.settings ∧ (s.account h).pending = s.pending := by
  simp only [State.account]; simp

@[simp] theorem State.takeReading_keeps (s : State) :
    (s.takeReading).supply = s.supply ∧ (s.takeReading).time = s.time ∧ (s.takeReading).sched = s.sched
      ∧ (s.takeReading).plan = s.plan ∧ (s.takeReading).meter = s.meter ∧ (s.takeReading).ramps = s.ramps
      ∧ (s.takeReading).frame = s.frame ∧ (s.takeReading).armTimer = s.armTimer
      ∧ (s.takeReading).triggers = s.triggers ∧ (s.takeReading).heads = s.heads
      ∧ (s.takeReading).journal = s.journal ∧ (s.takeReading).ports = s.ports
      ∧ (s.takeReading).stations = s.stations ∧ (s.takeReading).windows = s.windows
      ∧ (s.takeReading).flags = s.flags ∧ (s.takeReading).settings = s.settings
      ∧ (s.takeReading).pending = s.pending := by
  simp only [State.takeReading]; simp

@[simp] theorem State.measure_keeps (s : State) :
    (s.measure).supply = s.supply ∧ (s.measure).time = s.time ∧ (s.measure).sched = s.sched
      ∧ (s.measure).plan = s.plan ∧ (s.measure).meter = s.meter ∧ (s.measure).ramps = s.ramps
      ∧ (s.measure).frame = s.frame ∧ (s.measure).armTimer = s.armTimer ∧ (s.measure).triggers = s.triggers
      ∧ (s.measure).heads = s.heads ∧ (s.measure).journal = s.journal ∧ (s.measure).ports = s.ports
      ∧ (s.measure).windows = s.windows ∧ (s.measure).flags = s.flags ∧ (s.measure).settings = s.settings
      ∧ (s.measure).pending = s.pending := by
  simp only [State.measure]; simp

@[simp] theorem State.railOn_keeps (s : State) (h : Head) :
    (s.railOn h).supply = s.supply ∧ (s.railOn h).bsense = s.bsense ∧ (s.railOn h).time = s.time
      ∧ (s.railOn h).sched = s.sched ∧ (s.railOn h).plan = s.plan ∧ (s.railOn h).meter = s.meter
      ∧ (s.railOn h).ramps = s.ramps ∧ (s.railOn h).frame = s.frame ∧ (s.railOn h).armTimer = s.armTimer
      ∧ (s.railOn h).triggers = s.triggers ∧ (s.railOn h).heads = s.heads ∧ (s.railOn h).journal = s.journal
      ∧ (s.railOn h).ports = s.ports ∧ (s.railOn h).stations = s.stations ∧ (s.railOn h).windows = s.windows
      ∧ (s.railOn h).flags = s.flags ∧ (s.railOn h).settings = s.settings ∧ (s.railOn h).pending = s.pending := by
  simp only [State.railOn]; simp

@[simp] theorem State.stopOnTime_keeps (s : State) (h : Head) :
    (s.stopOnTime h).supply = s.supply ∧ (s.stopOnTime h).bsense = s.bsense ∧ (s.stopOnTime h).time = s.time
      ∧ (s.stopOnTime h).sched = s.sched ∧ (s.stopOnTime h).plan = s.plan ∧ (s.stopOnTime h).meter = s.meter
      ∧ (s.stopOnTime h).ramps = s.ramps ∧ (s.stopOnTime h).frame = s.frame ∧ (s.stopOnTime h).armTimer = s.armTimer
      ∧ (s.stopOnTime h).triggers = s.triggers ∧ (s.stopOnTime h).heads = s.heads
      ∧ (s.stopOnTime h).journal = s.journal ∧ (s.stopOnTime h).ports = s.ports
      ∧ (s.stopOnTime h).windows = s.windows ∧ (s.stopOnTime h).flags = s.flags
      ∧ (s.stopOnTime h).settings = s.settings ∧ (s.stopOnTime h).pending = s.pending := by
  simp only [State.stopOnTime]; (repeat' split) <;> simp

/-! ## Heads, triggers and members -/

@[simp] theorem State.release_keeps (s : State) (h : Head) :
    (s.release h).supply = s.supply ∧ (s.release h).bsense = s.bsense ∧ (s.release h).time = s.time
      ∧ (s.release h).sched = s.sched ∧ (s.release h).plan = s.plan ∧ (s.release h).meter = s.meter
      ∧ (s.release h).ramps = s.ramps ∧ (s.release h).frame = s.frame ∧ (s.release h).armTimer = s.armTimer
      ∧ (s.release h).heads = s.heads ∧ (s.release h).energy = s.energy ∧ (s.release h).journal = s.journal
      ∧ (s.release h).ports = s.ports ∧ (s.release h).stations = s.stations ∧ (s.release h).windows = s.windows
      ∧ (s.release h).flags = s.flags ∧ (s.release h).settings = s.settings ∧ (s.release h).pending = s.pending := by
  simp only [State.release]; simp

@[simp] theorem State.stopBulb_keeps (s : State) (h : Head) :
    (s.stopBulb h).supply = s.supply ∧ (s.stopBulb h).bsense = s.bsense ∧ (s.stopBulb h).time = s.time
      ∧ (s.stopBulb h).sched = s.sched ∧ (s.stopBulb h).plan = s.plan ∧ (s.stopBulb h).meter = s.meter
      ∧ (s.stopBulb h).ramps = s.ramps ∧ (s.stopBulb h).frame = s.frame ∧ (s.stopBulb h).armTimer = s.armTimer
      ∧ (s.stopBulb h).heads = s.heads ∧ (s.stopBulb h).energy = s.energy ∧ (s.stopBulb h).journal = s.journal
      ∧ (s.stopBulb h).ports = s.ports ∧ (s.stopBulb h).stations = s.stations ∧ (s.stopBulb h).windows = s.windows
      ∧ (s.stopBulb h).flags = s.flags ∧ (s.stopBulb h).settings = s.settings ∧ (s.stopBulb h).pending = s.pending := by
  simp only [State.stopBulb]; simp

@[simp] theorem State.railOff_keeps (s : State) (h : Head) :
    (s.railOff h).supply = s.supply ∧ (s.railOff h).bsense = s.bsense ∧ (s.railOff h).time = s.time
      ∧ (s.railOff h).sched = s.sched ∧ (s.railOff h).plan = s.plan ∧ (s.railOff h).meter = s.meter
      ∧ (s.railOff h).ramps = s.ramps ∧ (s.railOff h).frame = s.frame ∧ (s.railOff h).armTimer = s.armTimer
      ∧ (s.railOff h).journal = s.journal ∧ (s.railOff h).windows = s.windows ∧ (s.railOff h).settings = s.settings
      ∧ (s.railOff h).pending = s.pending := by
  simp only [State.railOff]; simp

@[simp] theorem State.exclude_keeps (s : State) (h : Head) (r : ExclusionReason) :
    (s.exclude h r).supply = s.supply ∧ (s.exclude h r).bsense = s.bsense ∧ (s.exclude h r).time = s.time
      ∧ (s.exclude h r).sched = s.sched ∧ (s.exclude h r).plan = s.plan ∧ (s.exclude h r).meter = s.meter
      ∧ (s.exclude h r).ramps = s.ramps ∧ (s.exclude h r).frame = s.frame ∧ (s.exclude h r).armTimer = s.armTimer
      ∧ (s.exclude h r).triggers = s.triggers ∧ (s.exclude h r).energy = s.energy
      ∧ (s.exclude h r).journal = s.journal ∧ (s.exclude h r).ports = s.ports ∧ (s.exclude h r).windows = s.windows
      ∧ (s.exclude h r).flags = s.flags ∧ (s.exclude h r).settings = s.settings
      ∧ (s.exclude h r).pending = s.pending := by
  simp only [State.exclude]; (repeat' split) <;> simp

@[simp] theorem State.judgeMisses_keeps (s : State) (h : Head) :
    (s.judgeMisses h).supply = s.supply ∧ (s.judgeMisses h).bsense = s.bsense ∧ (s.judgeMisses h).time = s.time
      ∧ (s.judgeMisses h).sched = s.sched ∧ (s.judgeMisses h).plan = s.plan ∧ (s.judgeMisses h).meter = s.meter
      ∧ (s.judgeMisses h).ramps = s.ramps ∧ (s.judgeMisses h).frame = s.frame
      ∧ (s.judgeMisses h).armTimer = s.armTimer ∧ (s.judgeMisses h).journal = s.journal
      ∧ (s.judgeMisses h).windows = s.windows ∧ (s.judgeMisses h).settings = s.settings
      ∧ (s.judgeMisses h).pending = s.pending := by
  simp only [State.judgeMisses]; (repeat' split) <;> simp

@[simp] theorem State.countMiss_keeps (s : State) (h : Head) :
    (s.countMiss h).supply = s.supply ∧ (s.countMiss h).bsense = s.bsense ∧ (s.countMiss h).time = s.time
      ∧ (s.countMiss h).sched = s.sched ∧ (s.countMiss h).plan = s.plan ∧ (s.countMiss h).meter = s.meter
      ∧ (s.countMiss h).ramps = s.ramps ∧ (s.countMiss h).frame = s.frame ∧ (s.countMiss h).armTimer = s.armTimer
      ∧ (s.countMiss h).journal = s.journal ∧ (s.countMiss h).windows = s.windows
      ∧ (s.countMiss h).settings = s.settings ∧ (s.countMiss h).pending = s.pending := by
  simp only [State.countMiss]; simp

@[simp] theorem State.applyStorageMark_keeps (s : State) (h : Head) :
    (s.applyStorageMark h).supply = s.supply ∧ (s.applyStorageMark h).bsense = s.bsense
      ∧ (s.applyStorageMark h).time = s.time ∧ (s.applyStorageMark h).sched = s.sched
      ∧ (s.applyStorageMark h).plan = s.plan ∧ (s.applyStorageMark h).meter = s.meter
      ∧ (s.applyStorageMark h).ramps = s.ramps ∧ (s.applyStorageMark h).frame = s.frame
      ∧ (s.applyStorageMark h).armTimer = s.armTimer ∧ (s.applyStorageMark h).triggers = s.triggers
      ∧ (s.applyStorageMark h).energy = s.energy ∧ (s.applyStorageMark h).journal = s.journal
      ∧ (s.applyStorageMark h).ports = s.ports ∧ (s.applyStorageMark h).windows = s.windows
      ∧ (s.applyStorageMark h).flags = s.flags ∧ (s.applyStorageMark h).settings = s.settings
      ∧ (s.applyStorageMark h).pending = s.pending := by
  simp only [State.applyStorageMark]; (repeat' split) <;> simp

@[simp] theorem State.readmit_keeps (s : State) (h : Head) :
    (s.readmit h).supply = s.supply ∧ (s.readmit h).bsense = s.bsense ∧ (s.readmit h).time = s.time
      ∧ (s.readmit h).sched = s.sched ∧ (s.readmit h).plan = s.plan ∧ (s.readmit h).meter = s.meter
      ∧ (s.readmit h).ramps = s.ramps ∧ (s.readmit h).frame = s.frame ∧ (s.readmit h).armTimer = s.armTimer
      ∧ (s.readmit h).triggers = s.triggers ∧ (s.readmit h).energy = s.energy ∧ (s.readmit h).journal = s.journal
      ∧ (s.readmit h).ports = s.ports ∧ (s.readmit h).stations = s.stations ∧ (s.readmit h).windows = s.windows
      ∧ (s.readmit h).flags = s.flags ∧ (s.readmit h).settings = s.settings ∧ (s.readmit h).pending = s.pending := by
  simp only [State.readmit]; simp

@[simp] theorem State.modFrame_keeps (s : State) (g : Frame → Frame) :
    (s.modFrame g).supply = s.supply ∧ (s.modFrame g).bsense = s.bsense ∧ (s.modFrame g).time = s.time
      ∧ (s.modFrame g).sched = s.sched ∧ (s.modFrame g).plan = s.plan ∧ (s.modFrame g).meter = s.meter
      ∧ (s.modFrame g).ramps = s.ramps ∧ (s.modFrame g).armTimer = s.armTimer ∧ (s.modFrame g).triggers = s.triggers
      ∧ (s.modFrame g).heads = s.heads ∧ (s.modFrame g).energy = s.energy ∧ (s.modFrame g).journal = s.journal
      ∧ (s.modFrame g).ports = s.ports ∧ (s.modFrame g).stations = s.stations ∧ (s.modFrame g).windows = s.windows
      ∧ (s.modFrame g).flags = s.flags ∧ (s.modFrame g).settings = s.settings ∧ (s.modFrame g).pending = s.pending := by
  simp only [State.modFrame]; (repeat' split) <;> simp

@[simp] theorem State.modMember_keeps (s : State) (h : Head) (g : Member → Member) :
    (s.modMember h g).supply = s.supply ∧ (s.modMember h g).bsense = s.bsense ∧ (s.modMember h g).time = s.time
      ∧ (s.modMember h g).sched = s.sched ∧ (s.modMember h g).plan = s.plan ∧ (s.modMember h g).meter = s.meter
      ∧ (s.modMember h g).ramps = s.ramps ∧ (s.modMember h g).armTimer = s.armTimer
      ∧ (s.modMember h g).triggers = s.triggers ∧ (s.modMember h g).heads = s.heads
      ∧ (s.modMember h g).energy = s.energy ∧ (s.modMember h g).journal = s.journal
      ∧ (s.modMember h g).ports = s.ports ∧ (s.modMember h g).stations = s.stations
      ∧ (s.modMember h g).windows = s.windows ∧ (s.modMember h g).flags = s.flags
      ∧ (s.modMember h g).settings = s.settings ∧ (s.modMember h g).pending = s.pending := by
  simp only [State.modMember]; simp

@[simp] theorem State.decideEntry_keeps (s : State) (h : Head) (o : EntryOutcome) :
    (s.decideEntry h o).supply = s.supply ∧ (s.decideEntry h o).bsense = s.bsense
      ∧ (s.decideEntry h o).time = s.time ∧ (s.decideEntry h o).sched = s.sched ∧ (s.decideEntry h o).plan = s.plan
      ∧ (s.decideEntry h o).meter = s.meter ∧ (s.decideEntry h o).ramps = s.ramps
      ∧ (s.decideEntry h o).armTimer = s.armTimer ∧ (s.decideEntry h o).triggers = s.triggers
      ∧ (s.decideEntry h o).heads = s.heads ∧ (s.decideEntry h o).energy = s.energy
      ∧ (s.decideEntry h o).journal = s.journal ∧ (s.decideEntry h o).ports = s.ports
      ∧ (s.decideEntry h o).stations = s.stations ∧ (s.decideEntry h o).windows = s.windows
      ∧ (s.decideEntry h o).flags = s.flags ∧ (s.decideEntry h o).settings = s.settings
      ∧ (s.decideEntry h o).pending = s.pending := by
  simp only [State.decideEntry]; simp

/-! ## Ramp, meter, plan, journal, schedule -/

@[simp] theorem State.computeTicket_keeps (s : State) (f : Frame) (h : Head) :
    (s.computeTicket f h).supply = s.supply ∧ (s.computeTicket f h).bsense = s.bsense
      ∧ (s.computeTicket f h).time = s.time ∧ (s.computeTicket f h).sched = s.sched
      ∧ (s.computeTicket f h).plan = s.plan ∧ (s.computeTicket f h).meter = s.meter
      ∧ (s.computeTicket f h).armTimer = s.armTimer ∧ (s.computeTicket f h).triggers = s.triggers
      ∧ (s.computeTicket f h).heads = s.heads ∧ (s.computeTicket f h).energy = s.energy
      ∧ (s.computeTicket f h).journal = s.journal ∧ (s.computeTicket f h).ports = s.ports
      ∧ (s.computeTicket f h).stations = s.stations ∧ (s.computeTicket f h).windows = s.windows
      ∧ (s.computeTicket f h).flags = s.flags ∧ (s.computeTicket f h).settings = s.settings
      ∧ (s.computeTicket f h).pending = s.pending := by
  simp only [State.computeTicket]; simp

@[simp] theorem State.askTicket_keeps (s : State) (f : Frame) (h : Head) :
    (s.askTicket f h).supply = s.supply ∧ (s.askTicket f h).bsense = s.bsense ∧ (s.askTicket f h).time = s.time
      ∧ (s.askTicket f h).sched = s.sched ∧ (s.askTicket f h).plan = s.plan ∧ (s.askTicket f h).meter = s.meter
      ∧ (s.askTicket f h).armTimer = s.armTimer ∧ (s.askTicket f h).triggers = s.triggers
      ∧ (s.askTicket f h).heads = s.heads ∧ (s.askTicket f h).energy = s.energy
      ∧ (s.askTicket f h).journal = s.journal ∧ (s.askTicket f h).ports = s.ports
      ∧ (s.askTicket f h).stations = s.stations ∧ (s.askTicket f h).windows = s.windows
      ∧ (s.askTicket f h).flags = s.flags ∧ (s.askTicket f h).settings = s.settings
      ∧ (s.askTicket f h).pending = s.pending := by
  simp only [State.askTicket]; (repeat' split) <;> simp

@[simp] theorem State.askReading_keeps (s : State) :
    (s.askReading).supply = s.supply ∧ (s.askReading).bsense = s.bsense ∧ (s.askReading).time = s.time
      ∧ (s.askReading).sched = s.sched ∧ (s.askReading).plan = s.plan ∧ (s.askReading).ramps = s.ramps
      ∧ (s.askReading).frame = s.frame ∧ (s.askReading).armTimer = s.armTimer ∧ (s.askReading).triggers = s.triggers
      ∧ (s.askReading).heads = s.heads ∧ (s.askReading).energy = s.energy ∧ (s.askReading).journal = s.journal
      ∧ (s.askReading).ports = s.ports ∧ (s.askReading).stations = s.stations ∧ (s.askReading).windows = s.windows
      ∧ (s.askReading).flags = s.flags ∧ (s.askReading).settings = s.settings ∧ (s.askReading).pending = s.pending := by
  simp only [State.askReading]; (repeat' split) <;> simp

@[simp] theorem State.enterPhase_keeps (s : State) (i : Nat) :
    (s.enterPhase i).supply = s.supply ∧ (s.enterPhase i).bsense = s.bsense ∧ (s.enterPhase i).time = s.time
      ∧ (s.enterPhase i).sched = s.sched ∧ (s.enterPhase i).meter = s.meter ∧ (s.enterPhase i).ramps = s.ramps
      ∧ (s.enterPhase i).frame = s.frame ∧ (s.enterPhase i).armTimer = s.armTimer
      ∧ (s.enterPhase i).triggers = s.triggers ∧ (s.enterPhase i).heads = s.heads
      ∧ (s.enterPhase i).energy = s.energy ∧ (s.enterPhase i).journal = s.journal ∧ (s.enterPhase i).ports = s.ports
      ∧ (s.enterPhase i).windows = s.windows ∧ (s.enterPhase i).flags = s.flags
      ∧ (s.enterPhase i).settings = s.settings ∧ (s.enterPhase i).pending = s.pending := by
  simp only [State.enterPhase]; simp

@[simp] theorem State.swapBanks_keeps (s : State) (e : Nat) :
    (s.swapBanks e).supply = s.supply ∧ (s.swapBanks e).bsense = s.bsense ∧ (s.swapBanks e).time = s.time
      ∧ (s.swapBanks e).sched = s.sched ∧ (s.swapBanks e).meter = s.meter ∧ (s.swapBanks e).ramps = s.ramps
      ∧ (s.swapBanks e).frame = s.frame ∧ (s.swapBanks e).armTimer = s.armTimer
      ∧ (s.swapBanks e).triggers = s.triggers ∧ (s.swapBanks e).heads = s.heads ∧ (s.swapBanks e).energy = s.energy
      ∧ (s.swapBanks e).journal = s.journal ∧ (s.swapBanks e).ports = s.ports ∧ (s.swapBanks e).windows = s.windows
      ∧ (s.swapBanks e).flags = s.flags ∧ (s.swapBanks e).settings = s.settings
      ∧ (s.swapBanks e).pending = s.pending := by
  simp only [State.swapBanks]; simp

@[simp] theorem State.countFrame_keeps (s : State) (f : Frame) :
    (s.countFrame f).supply = s.supply ∧ (s.countFrame f).bsense = s.bsense ∧ (s.countFrame f).time = s.time
      ∧ (s.countFrame f).sched = s.sched ∧ (s.countFrame f).meter = s.meter ∧ (s.countFrame f).ramps = s.ramps
      ∧ (s.countFrame f).frame = s.frame ∧ (s.countFrame f).armTimer = s.armTimer
      ∧ (s.countFrame f).triggers = s.triggers ∧ (s.countFrame f).heads = s.heads
      ∧ (s.countFrame f).energy = s.energy ∧ (s.countFrame f).journal = s.journal ∧ (s.countFrame f).ports = s.ports
      ∧ (s.countFrame f).stations = s.stations ∧ (s.countFrame f).windows = s.windows
      ∧ (s.countFrame f).flags = s.flags ∧ (s.countFrame f).settings = s.settings
      ∧ (s.countFrame f).pending = s.pending := by
  simp only [State.countFrame]; (repeat' split) <;> simp

@[simp] theorem State.planClose_keeps (s : State) (f : Frame) :
    (s.planClose f).supply = s.supply ∧ (s.planClose f).bsense = s.bsense ∧ (s.planClose f).time = s.time
      ∧ (s.planClose f).sched = s.sched ∧ (s.planClose f).meter = s.meter ∧ (s.planClose f).ramps = s.ramps
      ∧ (s.planClose f).frame = s.frame ∧ (s.planClose f).armTimer = s.armTimer
      ∧ (s.planClose f).triggers = s.triggers ∧ (s.planClose f).heads = s.heads ∧ (s.planClose f).energy = s.energy
      ∧ (s.planClose f).journal = s.journal ∧ (s.planClose f).ports = s.ports ∧ (s.planClose f).windows = s.windows
      ∧ (s.planClose f).flags = s.flags ∧ (s.planClose f).settings = s.settings
      ∧ (s.planClose f).pending = s.pending := by
  simp only [State.planClose]; (repeat' split) <;> simp

@[simp] theorem State.judgeFill_keeps (s : State) :
    (s.judgeFill).supply = s.supply ∧ (s.judgeFill).bsense = s.bsense ∧ (s.judgeFill).time = s.time
      ∧ (s.judgeFill).sched = s.sched ∧ (s.judgeFill).plan = s.plan ∧ (s.judgeFill).meter = s.meter
      ∧ (s.judgeFill).ramps = s.ramps ∧ (s.judgeFill).frame = s.frame ∧ (s.judgeFill).armTimer = s.armTimer
      ∧ (s.judgeFill).triggers = s.triggers ∧ (s.judgeFill).heads = s.heads ∧ (s.judgeFill).energy = s.energy
      ∧ (s.judgeFill).ports = s.ports ∧ (s.judgeFill).windows = s.windows ∧ (s.judgeFill).flags = s.flags
      ∧ (s.judgeFill).settings = s.settings ∧ (s.judgeFill).pending = s.pending := by
  simp only [State.judgeFill]; (repeat' split) <;> simp

@[simp] theorem State.deliver_keeps (s : State) (r : JournalRecord) (st : Station) :
    (s.deliver r st).supply = s.supply ∧ (s.deliver r st).bsense = s.bsense ∧ (s.deliver r st).time = s.time
      ∧ (s.deliver r st).sched = s.sched ∧ (s.deliver r st).plan = s.plan ∧ (s.deliver r st).meter = s.meter
      ∧ (s.deliver r st).ramps = s.ramps ∧ (s.deliver r st).frame = s.frame ∧ (s.deliver r st).armTimer = s.armTimer
      ∧ (s.deliver r st).triggers = s.triggers ∧ (s.deliver r st).heads = s.heads
      ∧ (s.deliver r st).energy = s.energy ∧ (s.deliver r st).journal = s.journal
      ∧ (s.deliver r st).windows = s.windows ∧ (s.deliver r st).flags = s.flags
      ∧ (s.deliver r st).settings = s.settings ∧ (s.deliver r st).pending = s.pending := by
  simp only [State.deliver]; (repeat' split) <;> simp

@[simp] theorem State.journalClose_keeps (s : State) (f : Frame) :
    (s.journalClose f).supply = s.supply ∧ (s.journalClose f).bsense = s.bsense ∧ (s.journalClose f).time = s.time
      ∧ (s.journalClose f).sched = s.sched ∧ (s.journalClose f).plan = s.plan ∧ (s.journalClose f).meter = s.meter
      ∧ (s.journalClose f).ramps = s.ramps ∧ (s.journalClose f).frame = s.frame
      ∧ (s.journalClose f).armTimer = s.armTimer ∧ (s.journalClose f).triggers = s.triggers
      ∧ (s.journalClose f).heads = s.heads ∧ (s.journalClose f).energy = s.energy
      ∧ (s.journalClose f).windows = s.windows ∧ (s.journalClose f).flags = s.flags
      ∧ (s.journalClose f).settings = s.settings ∧ (s.journalClose f).pending = s.pending := by
  simp only [State.journalClose]; simp

@[simp] theorem State.computeDue_keeps (s : State) :
    (s.computeDue).supply = s.supply ∧ (s.computeDue).bsense = s.bsense ∧ (s.computeDue).time = s.time
      ∧ (s.computeDue).plan = s.plan ∧ (s.computeDue).meter = s.meter ∧ (s.computeDue).ramps = s.ramps
      ∧ (s.computeDue).frame = s.frame ∧ (s.computeDue).armTimer = s.armTimer ∧ (s.computeDue).triggers = s.triggers
      ∧ (s.computeDue).heads = s.heads ∧ (s.computeDue).energy = s.energy ∧ (s.computeDue).journal = s.journal
      ∧ (s.computeDue).ports = s.ports ∧ (s.computeDue).stations = s.stations ∧ (s.computeDue).windows = s.windows
      ∧ (s.computeDue).flags = s.flags ∧ (s.computeDue).settings = s.settings ∧ (s.computeDue).pending = s.pending := by
  simp only [State.computeDue]; (repeat' split) <;> simp

@[simp] theorem State.emptyOpen_keeps (s : State) (due : Int) :
    (s.emptyOpen due).supply = s.supply ∧ (s.emptyOpen due).bsense = s.bsense ∧ (s.emptyOpen due).time = s.time
      ∧ (s.emptyOpen due).plan = s.plan ∧ (s.emptyOpen due).meter = s.meter ∧ (s.emptyOpen due).ramps = s.ramps
      ∧ (s.emptyOpen due).frame = s.frame ∧ (s.emptyOpen due).armTimer = s.armTimer
      ∧ (s.emptyOpen due).triggers = s.triggers ∧ (s.emptyOpen due).heads = s.heads
      ∧ (s.emptyOpen due).energy = s.energy ∧ (s.emptyOpen due).journal = s.journal
      ∧ (s.emptyOpen due).ports = s.ports ∧ (s.emptyOpen due).stations = s.stations
      ∧ (s.emptyOpen due).windows = s.windows ∧ (s.emptyOpen due).flags = s.flags
      ∧ (s.emptyOpen due).settings = s.settings ∧ (s.emptyOpen due).pending = s.pending := by
  simp only [State.emptyOpen]; simp

@[simp] theorem State.shiftTimes_keeps (s : State) (d : Int) :
    (s.shiftTimes d).supply = s.supply ∧ (s.shiftTimes d).bsense = s.bsense ∧ (s.shiftTimes d).time = s.time
      ∧ (s.shiftTimes d).plan = s.plan ∧ (s.shiftTimes d).meter = s.meter ∧ (s.shiftTimes d).ramps = s.ramps
      ∧ (s.shiftTimes d).armTimer = s.armTimer ∧ (s.shiftTimes d).triggers = s.triggers
      ∧ (s.shiftTimes d).heads = s.heads ∧ (s.shiftTimes d).energy = s.energy ∧ (s.shiftTimes d).journal = s.journal
      ∧ (s.shiftTimes d).ports = s.ports ∧ (s.shiftTimes d).stations = s.stations
      ∧ (s.shiftTimes d).windows = s.windows ∧ (s.shiftTimes d).flags = s.flags
      ∧ (s.shiftTimes d).settings = s.settings ∧ (s.shiftTimes d).pending = s.pending := by
  simp only [State.shiftTimes]; simp

/-! ## Waking, firing, D and the loss of members -/

@[simp] theorem State.enterWaking_keeps (s : State) (h : Head) :
    (s.enterWaking h).supply = s.supply ∧ (s.enterWaking h).bsense = s.bsense ∧ (s.enterWaking h).time = s.time
      ∧ (s.enterWaking h).sched = s.sched ∧ (s.enterWaking h).plan = s.plan ∧ (s.enterWaking h).meter = s.meter
      ∧ (s.enterWaking h).ramps = s.ramps ∧ (s.enterWaking h).frame = s.frame
      ∧ (s.enterWaking h).armTimer = s.armTimer ∧ (s.enterWaking h).triggers = s.triggers
      ∧ (s.enterWaking h).energy = s.energy ∧ (s.enterWaking h).journal = s.journal
      ∧ (s.enterWaking h).ports = s.ports ∧ (s.enterWaking h).stations = s.stations
      ∧ (s.enterWaking h).windows = s.windows ∧ (s.enterWaking h).flags = s.flags
      ∧ (s.enterWaking h).settings = s.settings ∧ (s.enterWaking h).pending = s.pending := by
  simp only [State.enterWaking]; simp

@[simp] theorem State.wake_keeps (s : State) (f : Frame) (h : Head) :
    (s.wake f h).supply = s.supply ∧ (s.wake f h).bsense = s.bsense ∧ (s.wake f h).time = s.time
      ∧ (s.wake f h).sched = s.sched ∧ (s.wake f h).plan = s.plan ∧ (s.wake f h).meter = s.meter
      ∧ (s.wake f h).ramps = s.ramps ∧ (s.wake f h).frame = s.frame ∧ (s.wake f h).armTimer = s.armTimer
      ∧ (s.wake f h).triggers = s.triggers ∧ (s.wake f h).journal = s.journal ∧ (s.wake f h).stations = s.stations
      ∧ (s.wake f h).windows = s.windows ∧ (s.wake f h).flags = s.flags ∧ (s.wake f h).settings = s.settings
      ∧ (s.wake f h).pending = s.pending := by
  simp only [State.wake]; (repeat' split) <;> simp

@[simp] theorem State.wakeIfReached_keeps (s : State) (h : Head) :
    (State.wakeIfReached h s).supply = s.supply ∧ (State.wakeIfReached h s).bsense = s.bsense
      ∧ (State.wakeIfReached h s).time = s.time ∧ (State.wakeIfReached h s).sched = s.sched
      ∧ (State.wakeIfReached h s).plan = s.plan ∧ (State.wakeIfReached h s).meter = s.meter
      ∧ (State.wakeIfReached h s).ramps = s.ramps
      ∧ (State.wakeIfReached h s).armTimer = s.armTimer ∧ (State.wakeIfReached h s).triggers = s.triggers
      ∧ (State.wakeIfReached h s).journal = s.journal ∧ (State.wakeIfReached h s).stations = s.stations
      ∧ (State.wakeIfReached h s).windows = s.windows ∧ (State.wakeIfReached h s).flags = s.flags
      ∧ (State.wakeIfReached h s).settings = s.settings ∧ (State.wakeIfReached h s).pending = s.pending := by
  simp only [State.wakeIfReached]; (repeat' split) <;> simp

@[simp] theorem State.wakeReached_keeps (s : State) :
    (s.wakeReached).supply = s.supply ∧ (s.wakeReached).bsense = s.bsense ∧ (s.wakeReached).time = s.time
      ∧ (s.wakeReached).sched = s.sched ∧ (s.wakeReached).plan = s.plan ∧ (s.wakeReached).meter = s.meter
      ∧ (s.wakeReached).ramps = s.ramps ∧ (s.wakeReached).armTimer = s.armTimer
      ∧ (s.wakeReached).triggers = s.triggers ∧ (s.wakeReached).journal = s.journal
      ∧ (s.wakeReached).stations = s.stations ∧ (s.wakeReached).windows = s.windows
      ∧ (s.wakeReached).flags = s.flags ∧ (s.wakeReached).settings = s.settings
      ∧ (s.wakeReached).pending = s.pending := by
  simp only [State.wakeReached, forHeads]; simp

@[simp] theorem State.fire_keeps (s : State) (h : Head) :
    (State.fire h s).supply = s.supply ∧ (State.fire h s).bsense = s.bsense ∧ (State.fire h s).time = s.time
      ∧ (State.fire h s).sched = s.sched ∧ (State.fire h s).plan = s.plan ∧ (State.fire h s).meter = s.meter
      ∧ (State.fire h s).ramps = s.ramps ∧ (State.fire h s).frame = s.frame ∧ (State.fire h s).armTimer = s.armTimer
      ∧ (State.fire h s).energy = s.energy ∧ (State.fire h s).journal = s.journal ∧ (State.fire h s).ports = s.ports
      ∧ (State.fire h s).stations = s.stations ∧ (State.fire h s).windows = s.windows
      ∧ (State.fire h s).flags = s.flags ∧ (State.fire h s).settings = s.settings
      ∧ (State.fire h s).pending = s.pending := by
  simp only [State.fire]; (repeat' split) <;> simp

@[simp] theorem State.fireIfArmed_keeps (s : State) (h : Head) :
    (State.fireIfArmed h s).supply = s.supply ∧ (State.fireIfArmed h s).bsense = s.bsense
      ∧ (State.fireIfArmed h s).time = s.time ∧ (State.fireIfArmed h s).sched = s.sched
      ∧ (State.fireIfArmed h s).plan = s.plan ∧ (State.fireIfArmed h s).meter = s.meter
      ∧ (State.fireIfArmed h s).ramps = s.ramps ∧ (State.fireIfArmed h s).frame = s.frame
      ∧ (State.fireIfArmed h s).armTimer = s.armTimer ∧ (State.fireIfArmed h s).energy = s.energy
      ∧ (State.fireIfArmed h s).journal = s.journal ∧ (State.fireIfArmed h s).ports = s.ports
      ∧ (State.fireIfArmed h s).stations = s.stations ∧ (State.fireIfArmed h s).windows = s.windows
      ∧ (State.fireIfArmed h s).flags = s.flags ∧ (State.fireIfArmed h s).settings = s.settings
      ∧ (State.fireIfArmed h s).pending = s.pending := by
  simp only [State.fireIfArmed]; (repeat' split) <;> simp

@[simp] theorem State.fireArmed_keeps (s : State) :
    (s.fireArmed).supply = s.supply ∧ (s.fireArmed).bsense = s.bsense ∧ (s.fireArmed).time = s.time
      ∧ (s.fireArmed).sched = s.sched ∧ (s.fireArmed).plan = s.plan ∧ (s.fireArmed).meter = s.meter
      ∧ (s.fireArmed).ramps = s.ramps ∧ (s.fireArmed).frame = s.frame ∧ (s.fireArmed).armTimer = s.armTimer
      ∧ (s.fireArmed).energy = s.energy ∧ (s.fireArmed).journal = s.journal ∧ (s.fireArmed).ports = s.ports
      ∧ (s.fireArmed).stations = s.stations ∧ (s.fireArmed).windows = s.windows ∧ (s.fireArmed).flags = s.flags
      ∧ (s.fireArmed).settings = s.settings ∧ (s.fireArmed).pending = s.pending := by
  simp only [State.fireArmed, forHeads]; simp

@[simp] theorem State.setSync_keeps (s : State) (y : Sync) :
    (s.setSync y).supply = s.supply ∧ (s.setSync y).bsense = s.bsense ∧ (s.setSync y).time = s.time
      ∧ (s.setSync y).sched = s.sched ∧ (s.setSync y).plan = s.plan ∧ (s.setSync y).meter = s.meter
      ∧ (s.setSync y).ramps = s.ramps ∧ (s.setSync y).armTimer = s.armTimer ∧ (s.setSync y).triggers = s.triggers
      ∧ (s.setSync y).heads = s.heads ∧ (s.setSync y).energy = s.energy ∧ (s.setSync y).journal = s.journal
      ∧ (s.setSync y).ports = s.ports ∧ (s.setSync y).stations = s.stations ∧ (s.setSync y).windows = s.windows
      ∧ (s.setSync y).flags = s.flags ∧ (s.setSync y).settings = s.settings ∧ (s.setSync y).pending = s.pending := by
  simp only [State.setSync]; simp

@[simp] theorem State.fireLocked_keeps (s : State) :
    (s.fireLocked).supply = s.supply ∧ (s.fireLocked).bsense = s.bsense ∧ (s.fireLocked).time = s.time
      ∧ (s.fireLocked).sched = s.sched ∧ (s.fireLocked).plan = s.plan ∧ (s.fireLocked).meter = s.meter
      ∧ (s.fireLocked).ramps = s.ramps ∧ (s.fireLocked).energy = s.energy ∧ (s.fireLocked).journal = s.journal
      ∧ (s.fireLocked).ports = s.ports ∧ (s.fireLocked).stations = s.stations ∧ (s.fireLocked).windows = s.windows
      ∧ (s.fireLocked).flags = s.flags ∧ (s.fireLocked).settings = s.settings ∧ (s.fireLocked).pending = s.pending := by
  simp only [State.fireLocked]; simp

@[simp] theorem State.abandonMember_keeps (s : State) (h : Head) :
    (State.abandonMember h s).supply = s.supply ∧ (State.abandonMember h s).bsense = s.bsense
      ∧ (State.abandonMember h s).time = s.time ∧ (State.abandonMember h s).sched = s.sched
      ∧ (State.abandonMember h s).plan = s.plan ∧ (State.abandonMember h s).meter = s.meter
      ∧ (State.abandonMember h s).ramps = s.ramps ∧ (State.abandonMember h s).armTimer = s.armTimer
      ∧ (State.abandonMember h s).journal = s.journal ∧ (State.abandonMember h s).windows = s.windows
      ∧ (State.abandonMember h s).settings = s.settings ∧ (State.abandonMember h s).pending = s.pending := by
  simp only [State.abandonMember]; (repeat' split) <;> simp

@[simp] theorem State.abandon_keeps (s : State) :
    (s.abandon).supply = s.supply ∧ (s.abandon).bsense = s.bsense ∧ (s.abandon).time = s.time
      ∧ (s.abandon).sched = s.sched ∧ (s.abandon).plan = s.plan ∧ (s.abandon).meter = s.meter
      ∧ (s.abandon).ramps = s.ramps ∧ (s.abandon).journal = s.journal ∧ (s.abandon).windows = s.windows
      ∧ (s.abandon).settings = s.settings ∧ (s.abandon).pending = s.pending := by
  simp only [State.abandon, forHeads]; simp

@[simp] theorem State.abortMember_keeps (s : State) (h : Head) :
    (State.abortMember h s).supply = s.supply ∧ (State.abortMember h s).bsense = s.bsense
      ∧ (State.abortMember h s).time = s.time ∧ (State.abortMember h s).sched = s.sched
      ∧ (State.abortMember h s).plan = s.plan ∧ (State.abortMember h s).meter = s.meter
      ∧ (State.abortMember h s).ramps = s.ramps ∧ (State.abortMember h s).armTimer = s.armTimer
      ∧ (State.abortMember h s).triggers = s.triggers ∧ (State.abortMember h s).energy = s.energy
      ∧ (State.abortMember h s).journal = s.journal ∧ (State.abortMember h s).ports = s.ports
      ∧ (State.abortMember h s).stations = s.stations ∧ (State.abortMember h s).windows = s.windows
      ∧ (State.abortMember h s).flags = s.flags ∧ (State.abortMember h s).settings = s.settings
      ∧ (State.abortMember h s).pending = s.pending := by
  simp only [State.abortMember]; (repeat' split) <;> simp

@[simp] theorem State.abortLocked_keeps (s : State) :
    (s.abortLocked).supply = s.supply ∧ (s.abortLocked).bsense = s.bsense ∧ (s.abortLocked).time = s.time
      ∧ (s.abortLocked).sched = s.sched ∧ (s.abortLocked).plan = s.plan ∧ (s.abortLocked).meter = s.meter
      ∧ (s.abortLocked).ramps = s.ramps ∧ (s.abortLocked).triggers = s.triggers ∧ (s.abortLocked).energy = s.energy
      ∧ (s.abortLocked).journal = s.journal ∧ (s.abortLocked).ports = s.ports
      ∧ (s.abortLocked).stations = s.stations ∧ (s.abortLocked).windows = s.windows
      ∧ (s.abortLocked).flags = s.flags ∧ (s.abortLocked).settings = s.settings
      ∧ (s.abortLocked).pending = s.pending := by
  simp only [State.abortLocked, forHeads]; simp

@[simp] theorem State.reachLocked_keeps (s : State) (f : Frame) :
    (s.reachLocked f).supply = s.supply ∧ (s.reachLocked f).bsense = s.bsense ∧ (s.reachLocked f).time = s.time
      ∧ (s.reachLocked f).sched = s.sched ∧ (s.reachLocked f).plan = s.plan ∧ (s.reachLocked f).meter = s.meter
      ∧ (s.reachLocked f).ramps = s.ramps ∧ (s.reachLocked f).journal = s.journal
      ∧ (s.reachLocked f).windows = s.windows ∧ (s.reachLocked f).settings = s.settings
      ∧ (s.reachLocked f).pending = s.pending := by
  simp only [State.reachLocked]; (repeat' split) <;> simp

@[simp] theorem State.reachD_keeps (s : State) :
    (s.reachD).supply = s.supply ∧ (s.reachD).bsense = s.bsense ∧ (s.reachD).time = s.time
      ∧ (s.reachD).sched = s.sched ∧ (s.reachD).plan = s.plan ∧ (s.reachD).meter = s.meter
      ∧ (s.reachD).ramps = s.ramps ∧ (s.reachD).journal = s.journal ∧ (s.reachD).windows = s.windows
      ∧ (s.reachD).settings = s.settings ∧ (s.reachD).pending = s.pending := by
  simp only [State.reachD]; (repeat' split) <;> simp

/-! ## The open -/

@[simp] theorem State.createFrame_keeps (s : State) (due : Int) (g : HeadSet) (forced : Bool) :
    (s.createFrame due g forced).supply = s.supply ∧ (s.createFrame due g forced).bsense = s.bsense
      ∧ (s.createFrame due g forced).time = s.time ∧ (s.createFrame due g forced).plan = s.plan
      ∧ (s.createFrame due g forced).meter = s.meter ∧ (s.createFrame due g forced).ramps = s.ramps
      ∧ (s.createFrame due g forced).armTimer = s.armTimer ∧ (s.createFrame due g forced).triggers = s.triggers
      ∧ (s.createFrame due g forced).heads = s.heads ∧ (s.createFrame due g forced).energy = s.energy
      ∧ (s.createFrame due g forced).ports = s.ports ∧ (s.createFrame due g forced).stations = s.stations
      ∧ (s.createFrame due g forced).windows = s.windows ∧ (s.createFrame due g forced).flags = s.flags
      ∧ (s.createFrame due g forced).settings = s.settings ∧ (s.createFrame due g forced).pending = s.pending := by
  simp only [State.createFrame]; simp

@[simp] theorem State.dropStandby_keeps (s : State) (g : HeadSet) (h : Head) :
    (State.dropStandby g h s).supply = s.supply ∧ (State.dropStandby g h s).bsense = s.bsense
      ∧ (State.dropStandby g h s).time = s.time ∧ (State.dropStandby g h s).sched = s.sched
      ∧ (State.dropStandby g h s).plan = s.plan ∧ (State.dropStandby g h s).meter = s.meter
      ∧ (State.dropStandby g h s).ramps = s.ramps ∧ (State.dropStandby g h s).frame = s.frame
      ∧ (State.dropStandby g h s).armTimer = s.armTimer ∧ (State.dropStandby g h s).journal = s.journal
      ∧ (State.dropStandby g h s).windows = s.windows ∧ (State.dropStandby g h s).settings = s.settings
      ∧ (State.dropStandby g h s).pending = s.pending := by
  simp only [State.dropStandby]; (repeat' split) <;> simp

@[simp] theorem State.openFrame_keeps (s : State) (due : Int) (g : HeadSet) (forced : Bool) :
    (s.openFrame due g forced).supply = s.supply ∧ (s.openFrame due g forced).bsense = s.bsense
      ∧ (s.openFrame due g forced).time = s.time ∧ (s.openFrame due g forced).plan = s.plan
      ∧ (s.openFrame due g forced).ramps = s.ramps ∧ (s.openFrame due g forced).windows = s.windows
      ∧ (s.openFrame due g forced).settings = s.settings ∧ (s.openFrame due g forced).pending = s.pending := by
  simp only [State.openFrame, forHeads]; simp

@[simp] theorem State.openScheduled_keeps (s : State) (due : Int) :
    (s.openScheduled due).supply = s.supply ∧ (s.openScheduled due).bsense = s.bsense
      ∧ (s.openScheduled due).time = s.time ∧ (s.openScheduled due).plan = s.plan
      ∧ (s.openScheduled due).ramps = s.ramps ∧ (s.openScheduled due).windows = s.windows
      ∧ (s.openScheduled due).settings = s.settings ∧ (s.openScheduled due).pending = s.pending := by
  simp only [State.openScheduled]; (repeat' split) <;> simp

@[simp] theorem State.tryOpen_keeps (s : State) :
    (s.tryOpen).supply = s.supply ∧ (s.tryOpen).bsense = s.bsense ∧ (s.tryOpen).time = s.time
      ∧ (s.tryOpen).plan = s.plan ∧ (s.tryOpen).ramps = s.ramps ∧ (s.tryOpen).windows = s.windows
      ∧ (s.tryOpen).settings = s.settings ∧ (s.tryOpen).pending = s.pending := by
  simp only [State.tryOpen]; (repeat' split) <;> simp

@[simp] theorem State.reschedule_keeps (s : State) :
    (s.reschedule).supply = s.supply ∧ (s.reschedule).bsense = s.bsense ∧ (s.reschedule).time = s.time
      ∧ (s.reschedule).plan = s.plan ∧ (s.reschedule).ramps = s.ramps ∧ (s.reschedule).windows = s.windows
      ∧ (s.reschedule).settings = s.settings ∧ (s.reschedule).pending = s.pending := by
  simp only [State.reschedule]; (repeat' split) <;> simp

/-! ## HALT entry and the close -/

@[simp] theorem State.haltHead_keeps (s : State) (h : Head) :
    (State.haltHead h s).supply = s.supply ∧ (State.haltHead h s).bsense = s.bsense
      ∧ (State.haltHead h s).time = s.time ∧ (State.haltHead h s).sched = s.sched
      ∧ (State.haltHead h s).plan = s.plan ∧ (State.haltHead h s).meter = s.meter
      ∧ (State.haltHead h s).ramps = s.ramps ∧ (State.haltHead h s).armTimer = s.armTimer
      ∧ (State.haltHead h s).journal = s.journal ∧ (State.haltHead h s).windows = s.windows
      ∧ (State.haltHead h s).settings = s.settings ∧ (State.haltHead h s).pending = s.pending := by
  simp only [State.haltHead]; (repeat' split) <;> simp

@[simp] theorem State.haltEntry_keeps (s : State) :
    (s.haltEntry).supply = s.supply ∧ (s.haltEntry).bsense = s.bsense ∧ (s.haltEntry).time = s.time
      ∧ (s.haltEntry).plan = s.plan ∧ (s.haltEntry).meter = s.meter ∧ (s.haltEntry).ramps = s.ramps
      ∧ (s.haltEntry).journal = s.journal ∧ (s.haltEntry).windows = s.windows ∧ (s.haltEntry).settings = s.settings
      ∧ (s.haltEntry).pending = s.pending := by
  simp only [State.haltEntry, forHeads]; simp

@[simp] theorem State.accountMember_keeps (s : State) (h : Head) :
    (State.accountMember h s).supply = s.supply ∧ (State.accountMember h s).bsense = s.bsense
      ∧ (State.accountMember h s).time = s.time ∧ (State.accountMember h s).sched = s.sched
      ∧ (State.accountMember h s).plan = s.plan ∧ (State.accountMember h s).meter = s.meter
      ∧ (State.accountMember h s).ramps = s.ramps ∧ (State.accountMember h s).frame = s.frame
      ∧ (State.accountMember h s).armTimer = s.armTimer ∧ (State.accountMember h s).triggers = s.triggers
      ∧ (State.accountMember h s).heads = s.heads ∧ (State.accountMember h s).journal = s.journal
      ∧ (State.accountMember h s).ports = s.ports ∧ (State.accountMember h s).windows = s.windows
      ∧ (State.accountMember h s).flags = s.flags ∧ (State.accountMember h s).settings = s.settings
      ∧ (State.accountMember h s).pending = s.pending := by
  simp only [State.accountMember]; (repeat' split) <;> simp

@[simp] theorem State.followHalt_keeps (s : State) (before : Tier) :
    (s.followHalt before).supply = s.supply ∧ (s.followHalt before).bsense = s.bsense
      ∧ (s.followHalt before).time = s.time ∧ (s.followHalt before).plan = s.plan
      ∧ (s.followHalt before).meter = s.meter ∧ (s.followHalt before).ramps = s.ramps
      ∧ (s.followHalt before).journal = s.journal ∧ (s.followHalt before).windows = s.windows
      ∧ (s.followHalt before).settings = s.settings ∧ (s.followHalt before).pending = s.pending := by
  simp only [State.followHalt]; (repeat' split) <;> simp

@[simp] theorem State.energyClose_keeps (s : State) :
    (s.energyClose).supply = s.supply ∧ (s.energyClose).time = s.time ∧ (s.energyClose).plan = s.plan
      ∧ (s.energyClose).meter = s.meter ∧ (s.energyClose).ramps = s.ramps ∧ (s.energyClose).journal = s.journal
      ∧ (s.energyClose).windows = s.windows ∧ (s.energyClose).settings = s.settings
      ∧ (s.energyClose).pending = s.pending := by
  simp only [State.energyClose, forHeads]; simp

@[simp] theorem State.takeUpClose_keeps (s : State) (f : Frame) :
    (s.takeUpClose f).supply = s.supply ∧ (s.takeUpClose f).time = s.time ∧ (s.takeUpClose f).meter = s.meter
      ∧ (s.takeUpClose f).ramps = s.ramps ∧ (s.takeUpClose f).windows = s.windows
      ∧ (s.takeUpClose f).settings = s.settings ∧ (s.takeUpClose f).pending = s.pending := by
  simp only [State.takeUpClose]; simp

@[simp] theorem State.closeFrame_keeps (s : State) (f : Frame) :
    (s.closeFrame f).supply = s.supply ∧ (s.closeFrame f).time = s.time ∧ (s.closeFrame f).ramps = s.ramps
      ∧ (s.closeFrame f).windows = s.windows ∧ (s.closeFrame f).settings = s.settings
      ∧ (s.closeFrame f).pending = s.pending := by
  simp only [State.closeFrame]; simp

@[simp] theorem State.closeIfFinished_keeps (s : State) :
    (s.closeIfFinished).supply = s.supply ∧ (s.closeIfFinished).time = s.time ∧ (s.closeIfFinished).ramps = s.ramps
      ∧ (s.closeIfFinished).windows = s.windows ∧ (s.closeIfFinished).settings = s.settings
      ∧ (s.closeIfFinished).pending = s.pending := by
  simp only [State.closeIfFinished]; (repeat' split) <;> simp

@[simp] theorem State.followTier_keeps (s : State) (before : Tier) :
    (s.followTier before).supply = s.supply ∧ (s.followTier before).bsense = s.bsense
      ∧ (s.followTier before).time = s.time ∧ (s.followTier before).plan = s.plan
      ∧ (s.followTier before).ramps = s.ramps ∧ (s.followTier before).windows = s.windows
      ∧ (s.followTier before).settings = s.settings ∧ (s.followTier before).pending = s.pending := by
  simp only [State.followTier]; (repeat' split) <;> simp

@[simp] theorem State.finish_keeps (s : State) (before : Tier) :
    (s.finish before).supply = s.supply ∧ (s.finish before).time = s.time ∧ (s.finish before).ramps = s.ramps
      ∧ (s.finish before).windows = s.windows ∧ (s.finish before).settings = s.settings
      ∧ (s.finish before).pending = s.pending := by
  simp only [State.finish]; simp

end Sys2Proof.Machine
end

