-- ==== Sys2Proof/Laws/Slots.lean ====
section
/-! SUPPORT. What the operations on one member do, head by head: the member entry, the Head Sequencer and the trigger output of
every head after the operation, and the frame in flight. -/

namespace Sys2Proof.Machine

/-! ## The frame in flight and its members -/

theorem State.member_eq (s : State) (h : Head) : s.member h = s.frame.bind (fun f => f.members.get h) := by
  unfold State.member; cases s.frame <;> rfl

theorem State.member_some {s : State} {f : Frame} (h : Head) (hf : s.frame = some f) : s.member h = f.members.get h := by
  simp [State.member_eq, hf]

theorem State.member_congr {s t : State} (h : Head) (e : t.frame = s.frame) : t.member h = s.member h := by
  simp [State.member_eq, e]

@[simp] theorem State.modFrame_frame (s : State) (g : Frame → Frame) : (s.modFrame g).frame = s.frame.map g := by
  unfold State.modFrame; cases e : s.frame <;> simp [e]

/-- An entry that is decided once. -/
def Member.decided (o : EntryOutcome) (m : Member) : Member := if m.outcome.isNone then { m with outcome := some o } else m

theorem State.decideEntry_frame (s : State) (h : Head) (o : EntryOutcome) :
    (s.decideEntry h o).frame =
      s.frame.map (fun f => { f with members := f.members.set h ((f.members.get h).map (Member.decided o)) }) := by
  simp only [State.decideEntry, State.modMember, State.modFrame_frame]; rfl

theorem State.modMember_frame (s : State) (h : Head) (g : Member → Member) :
    (s.modMember h g).frame = s.frame.map (fun f => { f with members := f.members.set h ((f.members.get h).map g) }) := by
  simp only [State.modMember, State.modFrame_frame]

@[simp] theorem State.decideEntry_member_self (s : State) (h : Head) (o : EntryOutcome) :
    (s.decideEntry h o).member h = (s.member h).map (Member.decided o) := by
  simp only [State.member_eq, State.decideEntry_frame]; cases s.frame <;> simp

@[simp] theorem State.decideEntry_member_ne (s : State) {h k : Head} (o : EntryOutcome) (e : k ≠ h) :
    (s.decideEntry h o).member k = s.member k := by
  simp only [State.member_eq, State.decideEntry_frame]; cases s.frame <;> simp [e]

theorem State.undecided_iff (s : State) (h : Head) : s.undecided h = true ↔ ∃ m, s.member h = some m ∧ m.outcome = none := by
  unfold State.undecided; cases s.member h <;> simp

theorem State.undecided_congr {s t : State} (h : Head) (e : t.member h = s.member h) : t.undecided h = s.undecided h := by
  simp [State.undecided, e]

theorem State.outcomeOf_congr {s t : State} (h : Head) (e : t.member h = s.member h) : t.outcomeOf h = s.outcomeOf h := by
  simp [State.outcomeOf, e]

/-! ## Operations that leave every member entry as it was -/

@[simp] theorem State.modHead_member (s : State) (h : Head) (g : HeadSeq → HeadSeq) (k : Head) : (s.modHead h g).member k = s.member k :=
  State.member_congr k (by simp)

@[simp] theorem State.modTrigger_member (s : State) (h : Head) (g : Trigger → Trigger) (k : Head) : (s.modTrigger h g).member k = s.member k :=
  State.member_congr k (by simp)

@[simp] theorem State.modPort_member (s : State) (p : Port) (g : PortState → PortState) (k : Head) : (s.modPort p g).member k = s.member k :=
  State.member_congr k (by simp)

@[simp] theorem State.modRamp_member (s : State) (h : Head) (g : RampRecord → RampRecord) (k : Head) : (s.modRamp h g).member k = s.member k :=
  State.member_congr k (by simp)

@[simp] theorem State.raiseBoth_member (s : State) (e : Event) (k : Head) : (s.raiseBoth e).member k = s.member k :=
  State.member_congr k (by simp)

@[simp] theorem State.enqueue_member (s : State) (p : Port) (m : Message) (k : Head) : (s.enqueue p m).member k = s.member k :=
  State.member_congr k (by simp)

@[simp] theorem State.rxToHunt_member (s : State) (p : Port) (k : Head) : (s.rxToHunt p).member k = s.member k :=
  State.member_congr k (by simp)

@[simp] theorem State.release_member (s : State) (h : Head) (k : Head) : (s.release h).member k = s.member k :=
  State.member_congr k (by simp)

@[simp] theorem State.stopBulb_member (s : State) (h : Head) (k : Head) : (s.stopBulb h).member k = s.member k :=
  State.member_congr k (by simp)

@[simp] theorem State.railOff_member (s : State) (h : Head) (k : Head) : (s.railOff h).member k = s.member k :=
  State.member_congr k (by simp)

@[simp] theorem State.countMiss_member (s : State) (h : Head) (k : Head) : (s.countMiss h).member k = s.member k :=
  State.member_congr k (by simp)

@[simp] theorem State.exclude_member (s : State) (h : Head) (r : ExclusionReason) (k : Head) : (s.exclude h r).member k = s.member k :=
  State.member_congr k (by simp)

@[simp] theorem State.applyStorageMark_member (s : State) (h : Head) (k : Head) : (s.applyStorageMark h).member k = s.member k :=
  State.member_congr k (by simp)

@[simp] theorem State.account_member (s : State) (h : Head) (k : Head) : (s.account h).member k = s.member k :=
  State.member_congr k (by simp)

@[simp] theorem State.measure_member (s : State)  (k : Head) : (s.measure ).member k = s.member k :=
  State.member_congr k (by simp)

/-! ## The rail off -/

@[simp] theorem State.railOff_heads (s : State) (h : Head) :
    (s.railOff h).heads = s.heads.set h { (s.heads.get h).enter .off with keepOff := false } := by
  simp [State.railOff]

@[simp] theorem State.railOff_triggers (s : State) (h : Head) :
    (s.railOff h).triggers = s.triggers.set h
      { asserted := false, level := !(s.headSettings h).polarity.activeLevel, bulb := none, pulse := none } := by
  simp [State.railOff, State.release, State.stopBulb, releaseTrigger, State.headSettings]

/-! ## Misses and exclusion -/

theorem State.exclude_heads (s : State) (h : Head) (r : ExclusionReason) :
    (s.exclude h r).heads =
      s.heads.set h { s.heads.get h with exclusion := (s.heads.get h).exclusion.or (some r) } := by
  unfold State.exclude
  split
  · next hx =>
    obtain ⟨v, hv⟩ := Option.isSome_iff_exists.1 hx
    have e : { s.heads.get h with exclusion := (s.heads.get h).exclusion.or (some r) } = s.heads.get h := by
      rw [hv]; show { s.heads.get h with exclusion := some v } = s.heads.get h; rw [← hv]
    rw [e, Four.set_get]
  · next hx => simp [Option.not_isSome_iff_eq_none.1 hx]

/-- A miss of a head that is not in STANDBY: the count rises, and an ADMITTED head at its limit is excluded. -/
theorem State.countMiss_heads {s : State} {h : Head} (hs : (s.heads.get h).state ≠ .standby) :
    (s.countMiss h).heads = s.heads.set h { s.heads.get h with
      miss := min ((s.heads.get h).miss + 1) 15
      exclusion := if (s.headSettings h).missLimit ≤ min ((s.heads.get h).miss + 1) 15 then
          (s.heads.get h).exclusion.or (some .misses) else (s.heads.get h).exclusion } := by
  unfold State.countMiss State.judgeMisses
  cases e : (s.heads.get h).exclusion <;>
    simp only [State.modHead_heads, Four.get_set_self, saturate, Config.maxMisses, State.headSettings, State.modHead_settings]
  · by_cases hl : (s.settings.head.get h).missLimit ≤ min ((s.heads.get h).miss + 1) 15
    · simp [e, hl, hs, State.exclude_heads]
    · simp [e, hl]
  · simp [e]

theorem State.countMiss_triggers {s : State} {h : Head} (hs : (s.heads.get h).state ≠ .standby) :
    (s.countMiss h).triggers = s.triggers := by
  unfold State.countMiss State.judgeMisses
  simp [hs]; split <;> simp

theorem State.countMiss_energy {s : State} {h : Head} (hs : (s.heads.get h).state ≠ .standby) :
    (s.countMiss h).energy = s.energy := by
  unfold State.countMiss State.judgeMisses
  simp [hs]; split <;> simp

theorem State.countMiss_ports {s : State} {h : Head} (hs : (s.heads.get h).state ≠ .standby) :
    (s.countMiss h).ports = s.ports := by
  unfold State.countMiss State.judgeMisses
  simp [hs]; split <;> simp

theorem State.countMiss_flags {s : State} {h : Head} (hs : (s.heads.get h).state ≠ .standby) :
    (s.countMiss h).flags = s.flags := by
  unfold State.countMiss State.judgeMisses
  simp [hs]; split <;> simp

/-! ## Firing -/

@[simp] theorem Member.firing_of_ticket {m : Member} {t : TicketPart} (e : m.ticket = some t) (h : Head) (q : Nat) :
    m.firing h q = (t.exposure, t.mode) := by
  simp [Member.firing, e]

/-- A fire with no ticket part keeps to the range of durations (spec/05 R94; log entry 36). -/
theorem Member.firing_range {m : Member} (e : m.ticket = none) (h : Head) (q : Nat) :
    10 ≤ (m.firing h q).1 ∧ (m.firing h q).1 ≤ 4194304000 := by
  simp only [Member.firing, e, clampNat]
  (repeat' split) <;> omega

/-- All that a member's fire does (spec/05 R93 to R95; spec/06 R112). -/
theorem State.fire_member {s : State} {f : Frame} {m : Member} {h : Head} (hf : s.frame = some f)
    (hm : f.members.get h = some m) :
    State.fire h s = { s with
      heads := s.heads.set h ((s.heads.get h).enter .exposing)
      triggers := s.triggers.set h {
        asserted := true, level := (s.settings.head.get h).polarity.activeLevel, bulb := some (m.firing h f.sequence).1
        pulse := if (m.firing h f.sequence).2 = .timed then some (s.settings.head.get h).pulseWidth else none } } := by
  have e : s.firing h = some (m.firing h f.sequence) := by simp [State.firing, hf, hm]
  simp only [State.fire, e]
  cases (m.firing h f.sequence).2 <;> simp [State.modTrigger, State.modHead, assertTrigger, State.headSettings]

/-! ## The same change of every one -/

@[simp] theorem Four.get_map {α β : Type} (f : α → β) (v : Four α) (i : Head) : (v.map f).get i = f (v.get i) := by
  cases i <;> rfl

@[simp] theorem Six.get_map {α β : Type} (f : α → β) (v : Six α) (i : Port) : (v.map f).get i = f (v.get i) := by
  cases i <;> rfl

end Sys2Proof.Machine
end

