-- ==== Sys2Proof/Laws/Frame.lean ====
section
/-! SUPPORT. The shared operations around a frame, each said once: judging tiers, accounting, the end of an event, a schedule
that is not running, the open of a frame, and the delivery of a record. -/

namespace Sys2Proof.Machine

/-! ## Energy -/

theorem State.judgeTier_energy (s : State) :
    s.judgeTier.energy = { s.energy with effective := worse s.energy.voltageTier s.energy.floor.tier } := by
  unfold State.judgeTier; dsimp only; split
  · next h => rw [h]
  · simp

theorem worse_ne_halt {a : Tier} {b : BudgetFloor} (h : a ≠ .halt) : worse a b.tier ≠ .halt := by
  cases a <;> cases b <;> simp_all [worse, BudgetFloor.tier, Tier.rank]

theorem State.railOff_ports (s : State) (h : Head) :
    (s.railOff h).ports = s.ports.set (headPort h) (resetPortState (s.ports.get (headPort h))) := by
  simp [State.railOff, State.resetPort]

theorem State.railOff_energy {s : State} {h : Head} (hr : s.rail h = true) :
    (s.railOff h).energy = ((s.modOnTime h (fun o => { o with running := false })).account h).energy := by
  simp [State.railOff, State.stopOnTime, hr]

/-! ## The end of an event -/

/-- A frame with a member that holds it open is not finished. -/
theorem State.frameFinished_false {s : State} {g : Head} (h : s.memberFinished g = false) : s.frameFinished = false := by
  simp only [State.frameFinished, allHeads, Bool.and_eq_false_iff]; cases g <;> simp [h]

theorem State.memberFinished_congr {s t : State} {g : Head} (h1 : t.member g = s.member g)
    (h2 : (t.heads.get g).state = (s.heads.get g).state) : t.memberFinished g = s.memberFinished g := by
  unfold State.memberFinished; rw [h1, h2]

/-- An event that leaves the tier, with no frame or an unfinished one, ends as it is. -/
theorem State.finish_same {t : State} {b : Tier} (he : t.energy.effective = b)
    (hf : t.frame = none ∨ t.frameFinished = false) : t.finish b = t := by
  have h : t.followTier b = t := by simp [State.followTier, he]
  simp only [State.finish, h, State.closeIfFinished]
  rcases hf with e | e
  · rw [e]
  · cases t.frame with
    | none => rfl
    | some f => simp [e]

/-- An event outside HALT during an unfinished frame ends as it is. -/
theorem State.finish_open {t : State} {b : Tier} (he : t.energy.effective ≠ .halt) (hf : t.frame.isSome = true)
    (h2 : t.frameFinished = false) : t.finish b = t := by
  have h : t.followTier b = t := by
    unfold State.followTier; split
    · rfl
    · simp [State.reschedule, hf]
  simp only [State.finish, h, State.closeIfFinished]
  cases t.frame with
  | none => rfl
  | some f => simp [h2]

/-! ## No frame, and a schedule that is held -/

theorem State.tryOpen_of_none {s : State} (h : s.sched.openTime = none) : s.tryOpen = s := by
  simp [State.tryOpen, State.openReached, h]

theorem State.reachD_of_none {s : State} (h : s.frame = none) : s.reachD = s := by simp [State.reachD, h]

theorem State.wakeReached_of_none {s : State} (h : s.frame = none) : s.wakeReached = s := by
  simp [State.wakeReached, forHeads, State.wakeIfReached, h]

theorem State.closeIfFinished_of_none {s : State} (h : s.frame = none) : s.closeIfFinished = s := by
  simp [State.closeIfFinished, h]

theorem State.reschedule_of_held {s : State} (h1 : s.frame = none) (h2 : s.sched.run = .held) :
    s.reschedule = { s with sched := s.sched.noDue } := by
  simp only [State.reschedule, h1, Option.isSome_none, Bool.false_eq_true, if_false, State.computeDue, State.noSchedule, h2]
  simp only [decide_true, Bool.true_or, if_true]
  exact State.tryOpen_of_none rfl

/-! ## The open of a frame -/

/-- `g` is `f` with some members decided and the sync state moved. -/
def Frame.Later (f g : Frame) : Prop :=
  g = { f with members := g.members, sync := g.sync } ∧ ∀ h : Head, (g.members.get h).isSome = (f.members.get h).isSome

theorem Frame.Later.refl (f : Frame) : f.Later f := ⟨rfl, fun _ => rfl⟩

theorem Frame.Later.trans {a b c : Frame} (h1 : a.Later b) (h2 : b.Later c) : a.Later c :=
  ⟨by rw [h2.1, h1.1], fun h => (h2.2 h).trans (h1.2 h)⟩

/-- The frame in flight stays, later than it was. -/
def State.FrameLater (s t : State) : Prop := ∀ f : Frame, s.frame = some f → ∃ g : Frame, t.frame = some g ∧ f.Later g

theorem State.FrameLater.of_eq {s t : State} (h : t.frame = s.frame) : s.FrameLater t :=
  fun f hf => ⟨f, by rw [h, hf], .refl f⟩

theorem State.FrameLater.trans {s t u : State} (h1 : s.FrameLater t) (h2 : t.FrameLater u) : s.FrameLater u := by
  intro f hf
  obtain ⟨g, hg, h⟩ := h1 f hf
  obtain ⟨k, hk, h'⟩ := h2 g hg
  exact ⟨k, hk, h.trans h'⟩

theorem State.setSync_later (s : State) (y : Sync) : s.FrameLater (s.setSync y) :=
  fun f hf => ⟨{ f with sync := y }, by simp [State.setSync, hf], rfl, fun _ => rfl⟩

theorem State.decideEntry_later (s : State) (h : Head) (o : EntryOutcome) : s.FrameLater (s.decideEntry h o) := by
  intro f hf
  refine ⟨_, by rw [State.decideEntry_frame, hf]; rfl, rfl, fun k => ?_⟩
  by_cases e : k = h <;> simp [e]

theorem State.abandonMember_later (h : Head) (s : State) : s.FrameLater (State.abandonMember h s) := by
  unfold State.abandonMember
  (repeat' split) <;>
    first
      | exact .of_eq rfl
      | exact State.decideEntry_later _ _ _
      | (refine (State.decideEntry_later s h .noReady).trans (.of_eq ?_); simp)

theorem State.abandon_later (s : State) : s.FrameLater s.abandon := by
  have h : s.FrameLater (forHeads State.abandonMember s) :=
    (((State.abandonMember_later _ _).trans (State.abandonMember_later _ _)).trans (State.abandonMember_later _ _)).trans
      (State.abandonMember_later _ _)
  exact (h.trans (State.setSync_later _ _)).trans (.of_eq rfl)

theorem State.reachD_later (s : State) : s.FrameLater s.reachD := by
  unfold State.reachD State.reachLocked
  (repeat' split) <;>
    first
      | exact .of_eq rfl
      | exact State.abandon_later s
      | (refine (State.setSync_later s .afterD).trans (.of_eq ?_); simp; done)
      | (refine (State.setSync_later s .window).trans (.of_eq ?_); simp)
      | skip
  refine (State.FrameLater.of_eq (t := s.fireArmed) ?_).trans ((State.setSync_later _ .fired).trans (.of_eq rfl))
  simp

/-- A wake moves the member's own mark alone. -/
theorem State.wakeIfReached_later (h : Head) (s : State) : s.FrameLater (State.wakeIfReached h s) := by
  intro f hf
  unfold State.wakeIfReached
  rw [hf]; dsimp only
  (repeat' split)
  · exact ⟨f, hf, .refl f⟩
  · refine ⟨_, by rw [State.modMember_frame, State.wake_keeps .. |>.2.2.2.2.2.2.2.1, hf]; rfl, rfl, fun k => ?_⟩
    by_cases e : k = h <;> simp [e]
  · refine ⟨_, by rw [State.modMember_frame, hf]; rfl, rfl, fun k => ?_⟩
    by_cases e : k = h <;> simp [e]
  · exact ⟨f, hf, .refl f⟩

theorem State.wakeReached_later (s : State) : s.FrameLater s.wakeReached :=
  (((State.wakeIfReached_later _ _).trans (State.wakeIfReached_later _ _)).trans (State.wakeIfReached_later _ _)).trans
    (State.wakeIfReached_later _ _)

/-- An open makes the frame of its group, later than new when D is already reached. -/
theorem State.openFrame_frame (s : State) (due : Int) (g : HeadSet) (forced : Bool) :
    ∃ f : Frame, (s.openFrame due g forced).frame = some f
      ∧ (({ s with journal := s.journal.restart } : State).newFrame due g forced).Later f := by
  have h : (forHeads (State.dropStandby g) (s.createFrame due g forced)).askReading.frame =
      some (({ s with journal := s.journal.restart } : State).newFrame due g forced) := by
    simp [forHeads]; rfl
  exact ((State.wakeReached_later _).trans (State.reachD_later _)) _ h

theorem State.openFrame_sched (s : State) (due : Int) (g : HeadSet) (forced : Bool) :
    (s.openFrame due g forced).sched = { s.sched.noDue with skipped := 0 } := by
  simp only [State.openFrame, forHeads]; simp; rfl

theorem State.openFrame_journal (s : State) (due : Int) (g : HeadSet) (forced : Bool) :
    (s.openFrame due g forced).journal = { s.journal.restart with next := s.journal.restart.next + 1 } := by
  simp [State.openFrame, forHeads]; rfl

/-! ## Station ports -/

theorem State.railOff_stationPort {s : State} {h : Head} {p : Port} (hp : permitted .station p = true) :
    (s.railOff h).ports.get p = s.ports.get p := by
  simp [State.railOff_ports, station_ne_headPort h hp]

theorem State.wakeIfReached_stationPort {s : State} {h : Head} {p : Port} (hp : permitted .station p = true) :
    (State.wakeIfReached h s).ports.get p = s.ports.get p := by
  unfold State.wakeIfReached State.wake State.enterWaking State.enqueue
  (repeat' split) <;> simp [station_ne_headPort h hp]

theorem State.abandonMember_stationPort {s : State} {h : Head} {p : Port} (hp : permitted .station p = true) :
    (State.abandonMember h s).ports.get p = s.ports.get p := by
  have hm : ∀ t : State, (t.countMiss h).ports.get p = t.ports.get p := by
    intro t; unfold State.countMiss State.judgeMisses
    (repeat' split) <;> simp [State.railOff_stationPort hp]
  unfold State.abandonMember
  (repeat' split) <;> simp [hm]

theorem State.openFrame_stationPort {s : State} {due : Int} {g : HeadSet} {forced : Bool} {p : Port}
    (hp : permitted .station p = true) : (s.openFrame due g forced).ports.get p = s.ports.get p := by
  have hr : ∀ t : State, t.reachD.ports.get p = t.ports.get p := by
    intro t; unfold State.reachD State.reachLocked State.abandon forHeads
    (repeat' split) <;> simp [State.abandonMember_stationPort hp]
  have hd : ∀ (h : Head) (t : State), (State.dropStandby g h t).ports.get p = t.ports.get p := by
    intro h t; unfold State.dropStandby
    split <;> simp [State.railOff_stationPort hp]
  simp only [State.openFrame, forHeads, hr, State.wakeReached, State.wakeIfReached_stationPort hp]
  simp [hd]

/-! ## Deliveries -/

theorem State.deliver_push {s : State} {r : JournalRecord} {st : Station} (h1 : s.settings.push.get st = .push)
    (h2 : s.hasPlace (stationPort st) = true) :
    s.deliver r st = s.enqueue (stationPort st) (pushMessage s.journal.unacknowledged r) := by
  simp [State.deliver, h1, h2]

theorem State.deliver_flag {s : State} {r : JournalRecord} {st : Station}
    (h : s.settings.push.get st = .flag ∨ s.hasPlace (stationPort st) = false) :
    s.deliver r st = s.raiseAt st .frameClosed := by
  unfold State.deliver; rw [if_neg]; rcases h with h | h <;> simp [h]

end Sys2Proof.Machine
end

