-- ==== Sys2Proof/Laws/PerInstr.lean ====
section
/-! SUPPORT. A family of statements about every command as syntax: the body that a request command stands for has the request
LEN of its kind (spec/09 R159), and every body fits the 2 to 200 bytes that the receive assembly takes (spec/09 R153). -/

namespace Sys2Proof.Laws.BodyFits

/-- The body of a well-formed request command fits the line and has the length of its kind. -/
def Statement (i : Instr) : Prop :=
  i.wellFormed = true → ∀ body : List Byte, bodyOfCommand i = some body →
    2 ≤ body.length ∧ body.length ≤ 200
      ∧ ∀ k : Kind, body.head?.bind kindOfCode = some k → body.length = k.requestLength

/-- A ladder slot takes three bytes. -/
theorem bytesOfRawSegments_length (slots : List RawSegment) : (bytesOfRawSegments slots).length = 3 * slots.length := by
  induction slots with
  | nil => rfl
  | cons r rest ih => simp [bytesOfRawSegments, toBytes2, ih]; omega

/-- The code of a kind names that kind. -/
theorem kindOfCode_code (k : Kind) : kindOfCode k.code = some k := by cases k <;> rfl

/-- A body of a known kind: the code of the kind, the tag, and as many field bytes as the kind has. -/
theorem of_kind {i : Instr} (k : Kind) {tag : Byte} {fields : List Byte} (e : bodyOfCommand i = some (k.code :: tag :: fields))
    (hl : fields.length + 2 = k.requestLength) : Statement i := by
  intro _ body hb
  obtain rfl : k.code :: tag :: fields = body := by simpa [e] using hb
  refine ⟨by simp, ?_, ?_⟩
  · have h : k.requestLength ≤ 200 := by cases k <;> decide
    simp; omega
  · intro j hj
    obtain rfl : k = j := by simpa [kindOfCode_code] using hj
    simpa using hl

/-- A command that is no request has no body. -/
theorem of_none {i : Instr} (e : bodyOfCommand i = none) : Statement i := by
  intro _ body hb
  simp [e] at hb

theorem hello (port : Port) (tag : Byte) : Statement (.hello port tag) := of_kind .hello rfl rfl

theorem ready (port : Port) (tag : Byte) (sequence : BitVec 32) : Statement (.ready port tag sequence) :=
  of_kind .ready rfl rfl

theorem result (port : Port) (tag : Byte) (sequence : BitVec 32) (level : BitVec 16) (storageFree : BitVec 16) (flags : Byte) :
    Statement (.result port tag sequence level storageFree flags) := of_kind .result rfl rfl

theorem statusRead (port : Port) (tag : Byte) : Statement (.statusRead port tag) := of_kind .statusRead rfl rfl

theorem eventsRead (port : Port) (tag : Byte) : Statement (.eventsRead port tag) := of_kind .eventsRead rfl rfl

theorem eventsEnable (port : Port) (tag : Byte) (field : BitVec 16) : Statement (.eventsEnable port tag field) :=
  of_kind .eventsEnable rfl rfl

theorem portStatus (port : Port) (tag : Byte) (index : Byte) : Statement (.portStatus port tag index) :=
  of_kind .portStatus rfl rfl

theorem portReset (port : Port) (tag : Byte) (index : Byte) : Statement (.portReset port tag index) :=
  of_kind .portReset rfl rfl

theorem journalRead (port : Port) (tag : Byte) (start : BitVec 32) (count : Byte) :
    Statement (.journalRead port tag start count) := of_kind .journalRead rfl rfl

theorem journalAck (port : Port) (tag : Byte) (sequence : BitVec 32) : Statement (.journalAck port tag sequence) :=
  of_kind .journalAck rfl rfl

theorem clockSet (port : Port) (tag : Byte) (count : BitVec 32) : Statement (.clockSet port tag count) :=
  of_kind .clockSet rfl rfl

theorem clockRead (port : Port) (tag : Byte) : Statement (.clockRead port tag) := of_kind .clockRead rfl rfl

theorem configWrite (port : Port) (tag : Byte) (item : Byte) (index : Byte) (value : BitVec 32) :
    Statement (.configWrite port tag item index value) := of_kind .configWrite rfl rfl

theorem configRead (port : Port) (tag : Byte) (item : Byte) (index : Byte) :
    Statement (.configRead port tag item index) := of_kind .configRead rfl rfl

theorem planClear (port : Port) (tag : Byte) : Statement (.planClear port tag) := of_kind .planClear rfl rfl

theorem phaseAppend (port : Port) (tag : Byte) (phase : RawPhase) : Statement (.phaseAppend port tag phase) :=
  of_kind .phaseAppend rfl rfl

theorem phaseReplace (port : Port) (tag : Byte) (index : Byte) (phase : RawPhase) :
    Statement (.phaseReplace port tag index phase) := of_kind .phaseReplace rfl rfl

theorem ladderPut (port : Port) (tag : Byte) (count : Byte) (slots : List RawSegment) :
    Statement (.ladderPut port tag count slots) := by
  intro hw
  have hl : (bytesOfRawSegments slots).length = 24 := by
    have := bytesOfRawSegments_length slots
    simp [Instr.wellFormed] at hw
    omega
  exact of_kind .ladderPut rfl (by simp [hl, Kind.requestLength]) hw

theorem commit (port : Port) (tag : Byte) (entry : Byte) : Statement (.commit port tag entry) :=
  of_kind .commit rfl rfl

theorem planRead (port : Port) (tag : Byte) (selector : Byte) (item : Byte) :
    Statement (.planRead port tag selector item) := of_kind .planRead rfl rfl

theorem planCopy (port : Port) (tag : Byte) : Statement (.planCopy port tag) := of_kind .planCopy rfl rfl

theorem seqHold (port : Port) (tag : Byte) : Statement (.seqHold port tag) := of_kind .seqHold rfl rfl

theorem seqResume (port : Port) (tag : Byte) : Statement (.seqResume port tag) := of_kind .seqResume rfl rfl

theorem forceFrame (port : Port) (tag : Byte) : Statement (.forceFrame port tag) := of_kind .forceFrame rfl rfl

theorem headReadmit (port : Port) (tag : Byte) (index : Byte) : Statement (.headReadmit port tag index) :=
  of_kind .headReadmit rfl rfl

theorem rampRead (port : Port) (tag : Byte) (index : Byte) : Statement (.rampRead port tag index) :=
  of_kind .rampRead rfl rfl

theorem rampReseed (port : Port) (tag : Byte) (index : Byte) : Statement (.rampReseed port tag index) :=
  of_kind .rampReseed rfl rfl

theorem bulletinWrite (port : Port) (tag : Byte) (index : Byte) (value : BitVec 16) :
    Statement (.bulletinWrite port tag index value) := of_kind .bulletinWrite rfl rfl

theorem bulletinRead (port : Port) (tag : Byte) (window : Byte) : Statement (.bulletinRead port tag window) :=
  of_kind .bulletinRead rfl rfl

theorem flagSet (port : Port) (tag : Byte) (flag : Byte) : Statement (.flagSet port tag flag) :=
  of_kind .flagSet rfl rfl

theorem flagClear (port : Port) (tag : Byte) (flag : Byte) : Statement (.flagClear port tag flag) :=
  of_kind .flagClear rfl rfl

theorem flagRead (port : Port) (tag : Byte) : Statement (.flagRead port tag) := of_kind .flagRead rfl rfl

theorem unknownKind (port : Port) (tag : Byte) (kind : Byte) : Statement (.unknownKind port tag kind) := by
  intro hw body hb
  obtain rfl : [kind, tag] = body := by simpa [bodyOfCommand] using hb
  refine ⟨by simp, by simp, fun k hk => ?_⟩
  simp_all [Instr.wellFormed]

theorem checkError (port : Port) : Statement (.checkError port) := of_none rfl

theorem lengthError (port : Port) : Statement (.lengthError port) := of_none rfl

theorem overrun (port : Port) : Statement (.overrun port) := of_none rfl

theorem framingError (port : Port) : Statement (.framingError port) := of_none rfl

theorem interByteTimerExpiry (port : Port) : Statement (.interByteTimerExpiry port) := of_none rfl

theorem messageSent (port : Port) : Statement (.messageSent port) := of_none rfl

theorem pulseEdge (edge : Edge) : Statement (.pulseEdge edge) := of_none rfl

theorem settleElapsed : Statement .settleElapsed := of_none rfl

theorem readingCompletion : Statement .readingCompletion := of_none rfl

theorem periodTimerExpiry : Statement .periodTimerExpiry := of_none rfl

theorem secondsCountAdvance : Statement .secondsCountAdvance := of_none rfl

theorem helloTimerExpiry (head : Head) : Statement (.helloTimerExpiry head) := of_none rfl

theorem readyTimerExpiry (head : Head) : Statement (.readyTimerExpiry head) := of_none rfl

theorem resultTimerExpiry (head : Head) : Statement (.resultTimerExpiry head) := of_none rfl

theorem graceTimerExpiry (head : Head) : Statement (.graceTimerExpiry head) := of_none rfl

theorem standbyTimerExpiry (head : Head) : Statement (.standbyTimerExpiry head) := of_none rfl

theorem armTimerExpiry : Statement .armTimerExpiry := of_none rfl

theorem bulbTimerExpiry (head : Head) : Statement (.bulbTimerExpiry head) := of_none rfl

theorem pulseWidthElapsed (head : Head) : Statement (.pulseWidthElapsed head) := of_none rfl

theorem measurementTimerExpiry (bsense : List Nat) : Statement (.measurementTimerExpiry bsense) := of_none rfl

theorem mainSupplyLoss : Statement .mainSupplyLoss := of_none rfl

theorem nrstAssert : Statement .nrstAssert := of_none rfl

theorem coldStart (bsense : List Nat) : Statement (.coldStart bsense) := of_none rfl

theorem warmStart (bsense : List Nat) : Statement (.warmStart bsense) := of_none rfl

theorem characterReceived (port : Port) (char : Byte) : Statement (.characterReceived port char) := of_none rfl

end Sys2Proof.Laws.BodyFits
end

