-- ==== Sys2Proof/Laws/Request.lean ====
section
/-! SUPPORT. What a request does, once for all kinds: it waits for the part to run, for a place and for a permitted port, and then
the block's answer is placed. -/

namespace Sys2Proof.Machine

theorem State.rxToHunt_eq (s : State) (p : Port) :
    s.rxToHunt p = s.modPort p (fun x => { x with rx := .hunt, interByte := none }) := rfl

@[simp] theorem State.rxToHunt_queue (s : State) (p q : Port) :
    ((s.rxToHunt p).ports.get q).queue = (s.ports.get q).queue := by
  simp only [State.rxToHunt, State.modPort, Six.get_set]; split <;> simp_all

@[simp] theorem State.rxToHunt_hasPlace (s : State) (p q : Port) : (s.rxToHunt p).hasPlace q = s.hasPlace q := by
  simp [State.hasPlace]

/-- A queue with a place takes a message and nothing else changes. -/
theorem State.enqueue_of_place {s : State} {p : Port} (m : Message) (h : s.hasPlace p = true) :
    s.enqueue p m = s.modPort p (fun x => { x with queue := x.queue ++ [m] }) := by
  simp [State.enqueue, h]

/-- A full queue takes nothing. -/
theorem State.enqueue_of_full {s : State} {p : Port} (m : Message) (h : s.hasPlace p = false) : s.enqueue p m = s := by
  simp [State.enqueue, h]

/-- Everything a request can do. -/
theorem State.request_cases (s : State) (k : Kind) (p : Port) (tag : Byte) (take : State → State × Reply) :
    (s.runs = false ∧ s.request k p tag take = s)
    ∨ (s.runs = true ∧ s.hasPlace p = false ∧ s.request k p tag take = (s.rxToHunt p).countError p .overrun)
    ∨ (s.runs = true ∧ s.hasPlace p = true ∧ permitted k.group p = false
        ∧ s.request k p tag take = s.answer p k tag .notPermitted [])
    ∨ (s.Accepts k p ∧ s.request k p tag take =
        (take (s.rxToHunt p)).1.enqueue p (replyMessage k tag (take (s.rxToHunt p)).2)) := by
  unfold State.request State.Accepts
  cases hr : s.runs
  · simp
  · cases hp : s.hasPlace p
    · simp [hp]
    · cases hk : permitted k.group p
      · have e := State.enqueue_of_place (s := s.rxToHunt p) (replyMessage k tag (bare .notPermitted)) (by simpa using hp)
        simp only [State.rxToHunt_hasPlace, hp, e, if_true, Bool.false_eq_true, if_false]
        simp [State.answer, State.placed, State.rxToHunt_eq, State.modPort, replyMessage, bare, reply]
      · simp [hp]

/-- A request that is handed to its block, where the block's work does not look at the assembly of the requesting port: the
answer is placed after the block's work on the state as it was. -/
theorem State.request_answered {s u : State} {k : Kind} {p : Port} {tag : Byte} {take : State → State × Reply} {r : Reply}
    (h : s.Accepts k p) (ht : take (s.rxToHunt p) = (u.rxToHunt p, r)) (hu : u.hasPlace p = true) :
    s.request k p tag take = u.placed p (replyMessage k tag r) := by
  obtain ⟨hr, hp, hk⟩ := h
  simp only [State.request, hr, if_true, State.rxToHunt_hasPlace, hp, hk, ht]
  rw [State.enqueue_of_place _ (by simpa using hu)]
  simp [State.placed, State.rxToHunt, State.modPort]

/-- The same for an answer with no effect that waits for it. -/
theorem State.request_reply {s u : State} {k : Kind} {p : Port} {tag : Byte} {take : State → State × Reply} {st : Status}
    {fields : List Byte} (h : s.Accepts k p) (ht : take (s.rxToHunt p) = (u.rxToHunt p, reply st fields))
    (hu : u.hasPlace p = true) : s.request k p tag take = u.answer p k tag st fields :=
  State.request_answered h ht hu

end Sys2Proof.Machine
end

