-- ==== Sys2Proof/Tests/Slice0.lean ====
section
/-! SUPPORT. Tests, each on one small state: the well-formedness checks, messages written out from their layouts, the worked
examples of the spec, and for every statement with hypotheses a state and operands that meet them, clause by clause. -/

namespace Sys2Proof.Tests

open Sys2Proof.Machine

/-! ## Helpers -/

/-- The state after one command. -/
def after (i : Instr) (s : State) : State :=
  match exec i s with
  | .next t => t
  | .fault r => nomatch r
  | .refused _ => s

/-- A part whose main supply is gone. -/
def stopped : State := { State.reset with supply := ⟨false, false⟩ }

/-- SV holds F0. -/
def holding : State := { State.reset with flags := (Eight.all none).set .i0 (some .sv) }

/-- SV holds F0 and a swap is pending. -/
def swapWaits : State := { holding with plan := { Plan.cold with swapPending := some 0 } }

/-- The shadow bank holds `n` phases. -/
def shadowOf (n : Nat) : State :=
  { holding with plan := { Plan.cold with bankB := ⟨List.replicate n defaultPhase, defaultBank.ladder⟩ } }

/-- A port with a queue. -/
def queued (p : Port) (q : List Message) : State := State.reset.modPort p (fun x => { x with queue := q })

/-- A port with its assembly in a state. -/
def assembling (p : Port) (a : Assembly) : State := State.reset.modPort p (fun x => { x with rx := a, interByte := some 100 })

def plainMessage : Message := ⟨[0x80#8], none⟩

/-- A member with no ticket, and one with a ticket of a trigger mode. -/
def fresh : Member := ⟨0, true, none, none, none⟩
def ticketed (mode : TriggerMode) : Member := { fresh with ticket := some ⟨250, 0, 0, 0, mode, ⟨false, false, false, false, false⟩⟩ }

/-- A frame of sequence 7 with D at 15, in a sync mode and state, with two entries. -/
def frameOf (mode : SyncMode) (sync : Sync) (m0 m1 : Option Member) : Frame :=
  { sequence := 7, openTime := 0, due := 15, bank := .a, phaseIndex := 0, entry := 0
    phase := { defaultPhase with sync := mode, armWindow := 5 }, interval := 300, forced := false, skipped := 0
    tierAtOpen := .normal, members := ⟨m0, m1, none, none⟩, meter := none, sync := sync, outcome := none
    haltAborted := false, resumedInFlight := false }

/-- That frame in flight, heads 0 and 1 in two states. -/
def inFlight (f : Frame) (x0 x1 : HeadSeq) : State :=
  { State.reset with
    frame := some f
    journal := { Journal.cold with next := 8 }
    heads := ⟨x0, x1, HeadSeq.cold, HeadSeq.cold⟩ }

/-- A head in a state with no timer. -/
def headIn (st : HeadState) : HeadSeq := { HeadSeq.cold with state := st }

/-- A running schedule at count 1,000,000 with an anchor and no due time; head 0 has lead 15 s. -/
def anchored (time : Int) (kind : AnchorKind) : State :=
  { State.reset with
    time := ⟨1000000, true, 0, 0⟩
    sched := { Scheduler.cold with run := .running, anchor := some ⟨time, kind⟩ } }

/-- A phase record on the line: start kind, presence, head set, sync mode and interval, the rest in range. -/
def rawPhase (kind presence heads sync : Byte) (interval : BitVec 32) : RawPhase :=
  { startKind := kind, presence := presence, startTime := 0#32, threshold := 100#16, confirm := 3#8, interval := interval
    frameLimit := 10#16, headSet := heads, syncMode := sync, armWindow := 5#8, compensation := 0#16, targetLevel := 400#16
    feedbackWeight := 4#8, slewLimit := 16#8, smoothingWeight := 8#8, deadband := 4#8 }

def slots (span : BitVec 16) (control : Byte) : List RawSegment := List.replicate 8 ⟨control, span⟩

/-- A record of a sequence. -/
def record (n : Nat) : JournalRecord :=
  { sequence := n, openTime := 0, due := 0, bank := .a, phaseIndex := 0, outcome := .ok, forced := false, skipped := 0
    meter := none, tierAtOpen := .normal, tierAtClose := .normal, battery := 12400, heads := Four.all none }

/-- A ring with records 0, 1 and 2. -/
def withRing : State := { State.reset with journal := { Journal.cold with ring := [record 0, record 1, record 2], next := 3 } }

/-! ## Well-formed commands -/

theorem test_ladderPut_of_seven_slots_is_ill_formed :
    (Instr.ladderPut .sv 1#8 7#8 (List.replicate 7 ⟨0#8, 1#16⟩)).wellFormed = false := by decide

theorem test_unknownKind_of_a_known_kind_is_ill_formed : (Instr.unknownKind .ul 1#8 0x10#8).wellFormed = false := by decide

/-! ## Messages written out from their layouts (spec/09 R153, R159, R165, R166) -/

theorem test_ready_bytes :
    commandOfBody .h2 [0x11#8, 0x05#8, 0x07#8, 0x01#8, 0x00#8, 0x00#8] = .ready .h2 0x05#8 0x107#32 := by decide

theorem test_result_bytes :
    commandOfBody .h0 [0x12#8, 0x09#8, 0x07#8, 0#8, 0#8, 0#8, 0x92#8, 0x01#8, 0x34#8, 0x12#8, 0x01#8]
      = .result .h0 0x09#8 7#32 402#16 0x1234#16 1#8 := by decide

theorem test_journalRead_bytes :
    commandOfBody .ul [0x28#8, 0x03#8, 0x00#8, 0x14#8, 0x00#8, 0x00#8, 0x02#8] = .journalRead .ul 3#8 0x1400#32 2#8 := by decide

theorem test_configWrite_bytes :
    commandOfBody .sv [0x34#8, 0x01#8, 0x20#8, 0x02#8, 0xF6#8, 0xFF#8, 0xFF#8, 0xFF#8]
      = .configWrite .sv 1#8 0x20#8 2#8 (-10 : BitVec 32) := by decide

theorem test_bulletinWrite_bytes :
    commandOfBody .h3 [0x50#8, 0x01#8, 0x07#8, 0xCD#8, 0xAB#8] = .bulletinWrite .h3 1#8 7#8 0xABCD#16 := by decide

theorem test_phaseAppend_bytes :
    commandOfBody .sv ([0x39#8, 0x01#8, 0x01#8, 0x01#8] ++ [0#8, 0#8, 0#8, 0#8] ++ [100#8, 0#8] ++ [3#8]
        ++ [0x2C#8, 0x01#8, 0#8, 0#8] ++ [10#8, 0#8] ++ [0x05#8, 0#8, 5#8] ++ [0#8, 0#8] ++ [0x90#8, 0x01#8]
        ++ [4#8, 16#8, 8#8, 4#8])
      = .phaseAppend .sv 1#8 (rawPhase 1#8 1#8 5#8 0#8 300#32) := by decide

theorem test_wrong_length_is_a_length_error : commandOfBody .sv [0x30#8, 0x01#8, 0x00#8] = .lengthError .sv := by decide

theorem test_reply_kind_is_unknown : commandOfBody .h0 [0x90#8, 0x01#8] = .unknownKind .h0 1#8 0x90#8 := by decide

/-- The sum of LEN, body and CHK is 0: 02h, 56h, 01h and A7h. -/
theorem test_frame_of_flagRead : frameOfBody [0x56#8, 0x01#8] = [0xC5#8, 0x02#8, 0x56#8, 0x01#8, 0xA7#8] := by decide

theorem test_no_table_word_spells_a_command : decodeTableWord 32 0x1234 = none := rfl

/-! ## The worked examples of the spec -/

/-- spec/03 sections 3.7 and 3.8: the logarithms of 3,072, of 400 and of 300. -/
theorem test_log64 : log64 3072 = 741 ∧ log64 400 = 553 ∧ log64 300 = 527 ∧ log64 1 = 0 ∧ log64 1048575 = 1279 := by decide

/-- spec/03 section 3.7: the durations on the way to the two tickets. -/
theorem test_durations :
    durationOf 250 957 = 7930125 ∧ durationOf 250 958 = 8016437 ∧ durationOf 250 872 = 3158437 ∧ durationOf 250 948 = 7193625 := by
  decide

/-- The inputs of spec/03 section 3.7 for a head, with its controls and its applied need. -/
def exampleInputs (gain : Bool) (need : Nat) : TicketInputs :=
  { ladder := [⟨.shutter, 640⟩, ⟨.gain, 128⟩, ⟨.shutter, 384⟩, ⟨.gain, 256⟩], base := 250, interval := 12, reserve := 4
    gainControl := gain, apertureControl := false, key := 1700, compensation := 32, correction := 9, deadband := 4
    smoothingWeight := 8, slewLimit := 24, bv := some 641, need := some need }

theorem test_ticket_of_head_0 : (exampleInputs true 976).compute =
    { need := 1000, exposure := 3158437, gain := 128, aperture := 0, flags := ⟨false, true, false, false, false⟩ } := by
  decide +kernel

theorem test_ticket_of_head_1 : (exampleInputs false 940).compute =
    { need := 948, exposure := 7193625, gain := 0, aperture := 0, flags := ⟨false, true, false, true, false⟩ } := by
  decide +kernel

/-- spec/03 section 3.8: the correction 9 becomes 15 after a level of 300, and 147 after a level of 0. -/
theorem test_feedback :
    9 + sixteenths ((log64 400 : Int) - log64 300) 4 = 15 ∧ 9 + sixteenths ((log64 400 : Int) - log64 1) 4 = 147 := by decide

/-- spec/04 section 4.6: after the close at 1,000,115 the due time is 1,000,180 with one skipped; after the forced frame's close
at 1,000,178 it is 1,000,240 with one skipped; in RESERVE at 1,004,000 it is 1,004,380, the count rising by eight. -/
theorem test_due_times :
    ({ Scheduler.cold with run := .running, interval := 60 } : Scheduler).dueFrom ⟨1000060, .frame⟩ 60 10 1000115 =
        { Scheduler.cold with
          run := .running, interval := 60, due := some 1000180, openTime := some 1000170, lastDue := some 1000180, skipped := 1 }
    ∧ ({ Scheduler.cold with interval := 60, lastDue := some 1000180 } : Scheduler).dueFrom ⟨1000060, .frame⟩ 60 10 1000178 =
        { Scheduler.cold with
          interval := 60, due := some 1000240, openTime := some 1000230, lastDue := some 1000240, skipped := 1 }
    ∧ ({ Scheduler.cold with interval := 60, lastDue := some 1000240, skipped := 1 } : Scheduler).dueFrom
          ⟨1000060, .frame⟩ 480 10 1004000 =
        { Scheduler.cold with
          interval := 480, due := some 1004380, openTime := some 1004370, lastDue := some 1004380, skipped := 9 } := by
  decide

/-- spec/11 section 11.4, step 3: four due times missed before the anchor 700,255; step 2: the two charges. -/
theorem test_missed_due_times_and_charges :
    ({ State.reset with
        frame := some { frameOf .free .afterD (some fresh) none with due := 700000 }
        sched := { Scheduler.cold with interval := 60 } } : State).missedDueTimes 700255 = 4
      ∧ chargeOf 12000 300 = 3600 ∧ chargeOf 9000 410 = 3690 := by decide

/-- spec/04 section 4.7: the SEQ_RESUME at 100 with a lead of 8 s opens the frame at once, with D 105. -/
theorem test_first_resume_opens_at_once :
    ((after (.seqResume .ul 1#8)
        { State.reset with
          time := ⟨100, false, 0, 0⟩
          settings := { Settings.default with head := Four.all { HeadSettings.default with lead := 8 } } }).frame.map
      (fun f => (f.due, f.openTime, f.sequence))) = some (105, 100, 0) := by decide +kernel

/-- spec/04 section 4.7: the CLOCK_SET at 200 moves the anchor, the due time and the open time by the jump. -/
theorem test_clock_set_moves_the_schedule :
    (after (.clockSet .sv 1#8 1690000000#32)
      { State.reset with
        time := ⟨200, false, 0, 0⟩
        sched := { Scheduler.cold with
          run := .running, anchor := some ⟨105, .frame⟩, due := some 405, openTime := some 397, lastDue := some 405 } }).sched =
      { Scheduler.cold with
        run := .running
        anchor := some ⟨1689999905, .frame⟩
        due := some 1690000205
        openTime := some 1690000197
        lastDue := some 1690000205 } := by decide +kernel

/-- spec/07 R128 with the default thresholds: a fall below 11,400 mV and the rise past it by 200 mV. -/
theorem test_voltage_tiers :
    judgeVoltage Settings.default .normal 11399 = .reserve ∧ judgeVoltage Settings.default .reserve 11599 = .reserve
      ∧ judgeVoltage Settings.default .reserve 11600 = .economy ∧ judgeVoltage Settings.default .halt 10999 = .halt := by decide

/-- The first power-up with the default battery gives the reset state. -/
theorem test_coldStart_is_reset : after (.coldStart []) State.reset = State.reset := by decide +kernel

/-! ## What the hypotheses of the statements are met by

One theorem for each statement with hypotheses: concrete operands and states that meet them, for each clause and at the bounds. -/

/-- StepTakesFrontCommand and EveryCommandGoesOn have no hypotheses. IdlePartLetsTimePass: an end of a second and an expiry due,
none due while the part runs, none due while it is stopped. -/
theorem witness_IdlePartLetsTimePass :
    State.reset.pending = []
      ∧ ({ State.reset with time := ⟨0, false, 1000, 0⟩ } : State).dueEvent = some .secondsCountAdvance
      ∧ ({ State.reset with ports := State.reset.ports.set .sv { PortState.cold with interByte := some 0 } } : State).dueEvent
          = some (.interByteTimerExpiry .sv)
      ∧ (State.reset.dueEvent = none ∧ State.reset.runs = true ∧ State.reset.time.subSecond < 1000)
      ∧ (stopped.pending = [] ∧ stopped.dueEvent = none ∧ stopped.runs = false) := by decide

theorem witness_MessageSpellsItsCommand :
    (Instr.ladderPut .sv 1#8 8#8 (slots 100#16 0#8)).wellFormed = true
      ∧ requestPort (.ladderPut .sv 1#8 8#8 (slots 100#16 0#8)) = some .sv
      ∧ (bodyOfCommand (.ladderPut .sv 1#8 8#8 (slots 100#16 0#8))).isSome = true
      ∧ (Instr.unknownKind .h0 1#8 0xE0#8).wellFormed = true
      ∧ bodyOfCommand (.unknownKind .h0 1#8 0xE0#8) = some [0xE0#8, 1#8] := by decide

/-- Bodies of 2 and of 200 bytes; a right and a wrong CHK of the first. -/
theorem witness_ReceivedFrameRunsItsCommand :
    State.reset.runs = true ∧ (State.reset.ports.get .h0).rx = .hunt
      ∧ [0x56#8, 1#8].length = 2
      ∧ [0x56#8, 1#8].foldl (fun a b => a + b) 0#8 + BitVec.ofNat 8 2 + 0xA7#8 = 0#8
      ∧ [0x56#8, 1#8].foldl (fun a b => a + b) 0#8 + BitVec.ofNat 8 2 + 0xA8#8 ≠ 0#8
      ∧ ∀ b : Byte, (List.replicate 200 b).length = 200 :=
  ⟨by decide, by decide, by decide, by decide, by decide, fun b => List.length_replicate⟩

theorem witness_CharacterMovesTheAssembly :
    State.reset.runs = true ∧ (State.reset.ports.get .ul).rx = .hunt
      ∧ (assembling .ul .awaitLen).runs = true ∧ ((assembling .ul .awaitLen).ports.get .ul).rx = .awaitLen
      ∧ 2 ≤ (2#8).toNat ∧ (200#8).toNat ≤ 200 ∧ (1#8).toNat < 2 ∧ 200 < (201#8).toNat
      ∧ ((assembling .ul (.body 3 [1#8])).ports.get .ul).rx = .body 3 [1#8] ∧ [1#8].length + 1 < 3
      ∧ ((assembling .ul (.body 2 [1#8])).ports.get .ul).rx = .body 2 [1#8] ∧ [1#8].length + 1 = 2 := by decide

/-- The five kinds, a count at 255, a total that reaches the threshold of 16 and one below it. -/
theorem witness_LineErrorsAreCounted :
    State.reset.runs = true
      ∧ ((assembling .sv .awaitLen).ports.get .sv).interByte.isSome = true
      ∧ (queued .sv (List.replicate 4 plainMessage)).hasPlace .sv = false
      ∧ (State.reset.ports.get .sv).errors.count .check < 255
      ∧ (State.reset.ports.get .sv).thresholdRaised = false
      ∧ (⟨255, 0, 0, 0, 0⟩ : ErrorCounts).count .framing = 255
      ∧ (State.reset.settings.port.get .sv).errorThreshold ≤ ((⟨15, 0, 0, 0, 0⟩ : ErrorCounts).bump .check).total
      ∧ ((⟨14, 0, 0, 0, 0⟩ : ErrorCounts).bump .check).total < (State.reset.settings.port.get .sv).errorThreshold := by decide

theorem witness_TurnedAwayMessagesChangeNothing :
    ((Instr.clockRead .sv 1#8).wellFormed = true ∧ (queued .sv (List.replicate 4 plainMessage)).runs = true
        ∧ requestPort (.clockRead .sv 1#8) = some .sv ∧ (queued .sv (List.replicate 4 plainMessage)).hasPlace .sv = false)
      ∧ ((Instr.clockRead .h1 1#8).wellFormed = true ∧ State.reset.runs = true ∧ State.reset.hasPlace .h1 = true
        ∧ bodyOfCommand (.clockRead .h1 1#8) = some [0x31#8, 1#8] ∧ kindOfCode 0x31#8 = some .clockRead
        ∧ permitted Kind.clockRead.group .h1 = false)
      ∧ kindOfCode 0xE1#8 = none := by decide

theorem witness_SentMessageFreesItsPlace :
    ((queued .sv [plainMessage]).runs = true ∧ ((queued .sv [plainMessage]).ports.get .sv).queue = plainMessage :: []
        ∧ (queued .sv [plainMessage]).frame = none ∧ plainMessage.effect = none)
      ∧ (⟨[0xB4#8], some (.lineSpeed .h0 .b9600)⟩ : Message).effect = some (.lineSpeed .h0 .b9600)
      ∧ (⟨[0xA4#8], some (.portReset .ul)⟩ : Message).effect = some (.portReset .ul)
      ∧ portStation? .ul = some .ul ∧ (State.reset.ports.get .ul).queue = [] := by decide

/-- A LOCKED frame in WAITING and in FIRED. -/
theorem witness_PortResetLosesTheMember :
    (inFlight (frameOf .locked .waiting (some fresh) (some fresh)) (headIn .waking) (headIn .off)).undecided .h0 = true
      ∧ (inFlight (frameOf .locked .waiting (some fresh) (some fresh)) (headIn .waking) (headIn .off)).undecided .h1 = true
      ∧ (inFlight (frameOf .locked .fired (some (ticketed .timed)) none) (headIn .exposing) (headIn .off)).undecided .h0 = true := by
  decide

theorem witness_StationEventsReadAndEnabled :
    State.reset.runs = true ∧ State.reset.hasPlace (stationPort .ul) = true := by decide

theorem witness_PortRequestsAreAnswered :
    State.reset.Accepts .portStatus .sv ∧ (5#8).toNat = portCode .sv ∧ 5 < (6#8).toNat :=
  ⟨⟨by decide, by decide, by decide⟩, by decide, by decide⟩

theorem witness_StatusReadIsOnePicture :
    State.reset.runs = true ∧ State.reset.hasPlace (stationPort .sv) = true := by decide

theorem witness_ClockIsSetAndRead : State.reset.Accepts .clockSet .sv ∧ State.reset.Accepts .clockRead .ul :=
  ⟨⟨by decide, by decide, by decide⟩, by decide, by decide, by decide⟩

/-- The count before a day rollover, of a valid clock. -/
def eve (s : State) : State := { s with time := ⟨86399, true, 0, 0⟩ }

theorem witness_SecondsCountAdvancesAndRollsOver :
    (stopped.runs = false ∧ stopped.time.count + 1 ≠ 4294967296 ∧ stopped.time.valid = false)
      ∧ (State.reset.runs = true ∧ State.reset.frame = none ∧ State.reset.sched.run = .held
        ∧ State.reset.sched.openTime = none ∧ State.reset.time.valid = false)
      ∧ ({ State.reset with time := ⟨4294967295, true, 0, 0⟩ } : State).time.count + 1 = 4294967296
      ∧ ((eve stopped).time.valid = true ∧ ((eve stopped).time.count + 1) % 86400 = 0
        ∧ (eve stopped).time.count + 1 ≠ 4294967296 ∧ (eve stopped).runs = false)
      ∧ ((eve State.reset).runs = true ∧ (eve State.reset).frame = none ∧ (eve State.reset).sched.run = .held
        ∧ (eve State.reset).sched.openTime = none
        ∧ (eve State.reset).energy.effective
          = worse (eve State.reset).energy.voltageTier (eve State.reset).energy.floor.tier) := by decide

theorem witness_HoldAndRunningResume :
    State.reset.Accepts .seqHold .ul ∧ (anchored 1000000 .start).Accepts .seqHold .sv
      ∧ (anchored 1000000 .start).sched.run = .running :=
  ⟨⟨by decide, by decide, by decide⟩, ⟨by decide, by decide, by decide⟩, by decide⟩

/-- A part with one lead for every head. -/
def leading (n : Nat) : State :=
  { State.reset with settings := { Settings.default with head := Four.all { HeadSettings.default with lead := n } } }

theorem witness_ResumeStartsTheSchedule :
    (leading 4).Accepts .seqResume .ul ∧ (leading 4).sched.run = .held ∧ (leading 4).frame = none
      ∧ (leading 4).energy.effective ≠ .halt ∧ (leading 4).exhausted = false
      ∧ (leading 4).largestLead (leading 4).group = 4 ∧ (leading 5).largestLead (leading 5).group = 5
      ∧ (leading 5).sched.run = .held :=
  ⟨⟨by decide, by decide, by decide⟩, by decide, by decide, by decide, by decide, by decide, by decide, by decide⟩

/-- A START anchor at now, one just past, and a FRAME anchor. -/
theorem witness_DueTimeIsTheFirstAhead :
    (anchored 1000000 .start).sched.run = .running ∧ (anchored 1000000 .start).exhausted = false
      ∧ (anchored 1000000 .start).energy.effective ≠ .halt
      ∧ (anchored 1000000 .start).sched.anchor = some ⟨1000000, .start⟩
      ∧ 1 ≤ (anchored 1000000 .start).plan.activePhase.interval
      ∧ (anchored 1000000 .start).now ≤ 1000000 ∧ ¬ (anchored 999999 .start).now ≤ 999999
      ∧ (anchored 999000 .frame).sched.anchor = some ⟨999000, .frame⟩ ∧ (anchored 999000 .frame).sched.lastDue = none := by
  decide

/-- A part whose tier is HALT, and one with no head to take a frame. -/
def halted : State := { State.reset with energy := { Energy.cold with voltageTier := .halt, effective := .halt } }
def excluded : State := { State.reset with heads := Four.all { HeadSeq.cold with exclusion := some .misses } }

theorem witness_ForceFrameOpensOrIsTurnedAway :
    State.reset.Accepts .forceFrame .sv
      ∧ (State.reset.energy.effective ≠ .halt ∧ State.reset.frame = none ∧ State.reset.group.get .h0 = true)
      ∧ halted.energy.effective = .halt
      ∧ ((inFlight (frameOf .free .beforeD (some fresh) none) (headIn .waking) (headIn .off)).energy.effective ≠ .halt
        ∧ (inFlight (frameOf .free .beforeD (some fresh) none) (headIn .waking) (headIn .off)).frame.isSome = true)
      ∧ (excluded.energy.effective ≠ .halt ∧ excluded.frame = none
        ∧ allHeads (fun h => excluded.group.get h == false) = true) :=
  ⟨⟨by decide, by decide, by decide⟩, by decide, by decide, by decide, by decide⟩

theorem witness_StoredSettingReadsBack :
    Setting.key ≠ Setting.calibration ∧ (0 : Nat) ≤ 384 ∧ (-2048 : Int) ≤ 2047 := by decide

/-- Item 99h is unknown; the others are a quiet setting, a line speed and the correction limit. -/
theorem witness_ConfigWriteStores :
    State.reset.Accepts .configWrite .sv ∧ settingOf 0x99 0 = none
      ∧ (settingOf 0x01 0).isSome = true ∧ Setting.Quiet .key
      ∧ (∃ n i : Nat, n ≤ 255 ∧ i ≤ 255 ∧ settingOf n i = some .correctionLimit)
      ∧ ∃ n i : Nat, n ≤ 255 ∧ i ≤ 255 ∧ settingOf n i = some (.lineSpeed .h0) :=
  ⟨⟨by decide, by decide, by decide⟩, by decide, by decide, trivial, ⟨9, 0, by decide, by decide, rfl⟩, ⟨0x20, 0, by decide, by decide, rfl⟩⟩

theorem witness_SharedFlagsHaveOneHolder :
    State.reset.runs = true ∧ State.reset.hasPlace .h0 = true ∧ idxOfNat (7#8).toNat = some .i7
      ∧ State.reset.flags.get .i7 = none ∧ holding.flags.get .i0 = some .sv ∧ Port.sv ≠ .h0 ∧ 7 < (8#8).toNat := by decide

theorem witness_BulletinWriteKeepsToItsWindow :
    State.reset.runs = true ∧ State.reset.hasPlace .h3 = true ∧ idxOfNat (7#8).toNat = some .i7 ∧ 7 < (8#8).toNat := by decide

theorem witness_BulletinReadReturnsTheWindow :
    State.reset.runs = true ∧ State.reset.hasPlace .h3 = true ∧ (5#8).toNat = portCode .sv ∧ 5 < (6#8).toNat := by decide

theorem witness_PlanClearAndCopyFillTheShadow :
    holding.Accepts .planClear .sv ∧ holding.flags.i0 = some .sv ∧ holding.plan.swapPending = none ∧ holding.PlanValid
      ∧ 0 < holding.plan.activeBank.phases.length :=
  ⟨⟨by decide, by decide, by decide⟩, by decide, by decide, ⟨by decide, fun _ h => nomatch h⟩, by decide⟩

theorem witness_PlanEditsNeedTheHolder :
    (Instr.commit .ul 1#8 0#8).wellFormed = true ∧ requestPort (.commit .ul 1#8 0#8) = some .ul
      ∧ bodyOfCommand (.commit .ul 1#8 0#8) = some (0x3C#8 :: 1#8 :: [0#8]) ∧ kindOfCode 0x3C#8 = some .commit
      ∧ holding.Accepts .commit .ul ∧ holding.flags.i0 ≠ some .ul
      ∧ swapWaits.Accepts .commit .sv ∧ swapWaits.flags.i0 = some .sv ∧ swapWaits.plan.swapPending.isSome = true :=
  ⟨by decide, by decide, by decide, by decide, ⟨by decide, by decide, by decide⟩, by decide,
    ⟨by decide, by decide, by decide⟩, by decide, by decide⟩

/-- Shadow banks of 16 and 15 phases; a record that is refused and two that are stored, one clamped. -/
theorem witness_PhasePutsStore :
    (shadowOf 16).Accepts .phaseAppend .sv ∧ (shadowOf 16).flags.i0 = some .sv ∧ (shadowOf 16).plan.swapPending = none
      ∧ 16 ≤ (shadowOf 16).plan.shadowBank.phases.length ∧ (shadowOf 15).plan.shadowBank.phases.length < 16
      ∧ putPhase (rawPhase 4#8 0#8 1#8 0#8 300#32) = .inl .badStartKind
      ∧ (∃ ph : Phase, putPhase (rawPhase 0#8 0#8 1#8 0#8 300#32) = .inr (ph, false))
      ∧ (∃ ph : Phase, putPhase (rawPhase 0#8 0#8 1#8 0#8 1#32) = .inr (ph, true))
      ∧ (shadowOf 15).plan.shadowBank.phases.length ≤ (15#8).toNat
      ∧ (14#8).toNat < (shadowOf 15).plan.shadowBank.phases.length :=
  ⟨⟨by decide, by decide, by decide⟩, by decide, by decide, by decide, by decide, by decide, ⟨_, rfl⟩, ⟨_, rfl⟩, by decide,
    by decide⟩

theorem witness_StoredPhaseIsInRange :
    (∃ ph : Phase, putPhase (rawPhase 3#8 1#8 15#8 1#8 86400#32) = .inr (ph, false))
      ∧ 3 < (rawPhase 4#8 0#8 1#8 0#8 300#32).startKind.toNat
      ∧ ((rawPhase 3#8 0#8 1#8 2#8 300#32).startKind.toNat ≤ 3 ∧ 1 < (rawPhase 3#8 0#8 1#8 2#8 300#32).syncMode.toNat)
      ∧ ((rawPhase 3#8 0#8 16#8 1#8 300#32).syncMode.toNat ≤ 1 ∧ (rawPhase 3#8 0#8 16#8 1#8 300#32).headSet.toNat % 16 = 0)
      ∧ (rawPhase 3#8 0#8 8#8 1#8 300#32).headSet.toNat % 16 ≠ 0 :=
  ⟨⟨_, rfl⟩, by decide⟩

/-- Counts 0 and 9, 1 and 8; controls 3 and 2. -/
theorem witness_LadderPutStores :
    (slots 1#16 0#8).length = 8 ∧ holding.Accepts .ladderPut .sv ∧ holding.flags.i0 = some .sv ∧ holding.plan.swapPending = none
      ∧ (0#8).toNat = 0 ∧ 8 < (9#8).toNat ∧ 1 ≤ (1#8).toNat ∧ (8#8).toNat ≤ 8
      ∧ (∃ g ∈ (slots 1#16 3#8).take 1, 2 < g.control.toNat) ∧ (∀ g ∈ (slots 1#16 2#8).take 8, g.control.toNat ≤ 2) :=
  ⟨by decide, ⟨by decide, by decide, by decide⟩, by decide, by decide, by decide, by decide, by decide, by decide, by decide,
    by decide⟩

theorem witness_CommitTakesEffect :
    (shadowOf 1).Accepts .commit .sv ∧ (shadowOf 1).flags.i0 = some .sv ∧ (shadowOf 1).plan.swapPending = none
      ∧ commitFault (shadowOf 1).plan.shadowBank 1 = some .badEntry
      ∧ commitFault (shadowOf 1).plan.shadowBank 0 = none ∧ (shadowOf 1).frame = none
      ∧ ({ shadowOf 1 with frame := some (frameOf .free .beforeD (some fresh) none) } : State).frame.isSome = true :=
  ⟨⟨by decide, by decide, by decide⟩, by decide, by decide, by decide, by decide, by decide, by decide⟩

/-- CommitChecksThePlan: a bank for every answer; the SHUTTER total and the ladder total at and above their ends. -/
theorem witness_CommitChecksThePlan :
    commitFault defaultBank 0 = none ∧ commitFault ⟨[], []⟩ 0 = some .emptyPlan
      ∧ commitFault ⟨[defaultPhase], []⟩ 1 = some .badEntry
      ∧ commitFault ⟨[{ defaultPhase with start := .afterLimit, frameLimit := none }], []⟩ 0 = some .limitChain
      ∧ commitFault ⟨[defaultPhase], []⟩ 0 = some .emptyLadder
      ∧ commitFault ⟨[defaultPhase], [⟨.gain, 1921⟩]⟩ 0 = some .noShutter
      ∧ commitFault ⟨[defaultPhase], [⟨.shutter, 1409⟩, ⟨.gain, 1000⟩]⟩ 0 = some .ladderShutter
      ∧ commitFault ⟨[defaultPhase], [⟨.shutter, 1408⟩, ⟨.gain, 513⟩]⟩ 0 = some .ladderTotal
      ∧ commitFault ⟨[defaultPhase], [⟨.shutter, 1408⟩, ⟨.gain, 512⟩]⟩ 0 = none := by decide

theorem witness_PlanReadReports :
    State.reset.Accepts .planRead .ul ∧ 1 < (2#8).toNat ∧ State.reset.plan.active = .a
      ∧ (State.reset.plan.bank .a).phases[(0#8).toNat]? = some defaultPhase
      ∧ (State.reset.plan.bank .a).phases.length ≤ (1#8).toNat ∧ 16 ≤ (16#8).toNat ∧ (16#8 : Byte) ≠ 0xFF#8 :=
  ⟨⟨by decide, by decide, by decide⟩, by decide, by decide, by decide, by decide, by decide, by decide⟩

/-- The ring with records 0, 1 and 2: a start in it, one beyond it, and acknowledgements at and beyond the newest. -/
theorem witness_JournalIsReadAndAcknowledged :
    withRing.Accepts .journalRead .sv ∧ withRing.JournalKept ∧ withRing.Accepts .journalAck .sv
      ∧ withRing.journal.ring = record 0 :: [record 1, record 2] ∧ (2#32).toNat - (record 0).sequence ≤ [record 1, record 2].length
      ∧ (∀ r ∈ withRing.journal.ring, r.sequence < (3#32).toNat) ∧ State.reset.journal.ring = []
      ∧ withRing.journal.newest = some 2 ∧ 2 < (3#32).toNat ∧ (2#32).toNat ≤ 2 ∧ markBelow withRing.journal.ack 2
      ∧ (1#8).toNat = 1 ∧ (2#8).toNat = 2 ∧ 2 < (3#8).toNat :=
  ⟨⟨by decide, by decide, by decide⟩,
    ⟨by decide, by decide, ⟨rfl, rfl, rfl, trivial⟩, (fun _ h => by cases h), by decide⟩,
    ⟨by decide, by decide, by decide⟩, rfl, by decide, by decide, rfl, rfl, by decide, by decide, trivial, rfl, rfl, by decide⟩

/-- AppendDeliversToEachStation: both ways of delivery. -/
theorem witness_AppendDeliversToEachStation :
    (({ State.reset with settings := { Settings.default with push := ⟨.push, .flag⟩ } } : State).settings.push.get .ul = .push
        ∧ State.reset.hasPlace (stationPort .ul) = true)
      ∧ State.reset.settings.push.get .sv = .flag := by decide

theorem witness_HelloIsTicketed :
    (inFlight (frameOf .free .beforeD (some fresh) none) (headIn .waking) (headIn .off)).runs = true
      ∧ (inFlight (frameOf .free .beforeD (some fresh) none) (headIn .waking) (headIn .off)).hasPlace (headPort .h0) = true
      ∧ (frameOf .free .beforeD (some fresh) none).members.get .h0 = some fresh ∧ fresh.outcome = none
      ∧ ((inFlight (frameOf .free .beforeD (some fresh) none) (headIn .waking) (headIn .off)).heads.get .h0).state = .waking
      ∧ (inFlight (frameOf .free .beforeD (some fresh) none) (headIn .waking) (headIn .off)).ticketStands
          (frameOf .free .beforeD (some fresh) none) .h0 = false
      ∧ (frameOf .free .beforeD (some fresh) (some (ticketed .timed))).members.get .h1 = some (ticketed .timed) := by
  decide

/-- A decided member, with head 1 still at work. -/
def decided (o : EntryOutcome) : Member := { ticketed .timed with outcome := some o }

theorem witness_HeadMessagesOutOfPlace :
    (State.reset.runs = true ∧ State.reset.hasPlace (headPort .h2) = true ∧ State.reset.member .h2 = none)
      ∧ ((inFlight (frameOf .free .afterD (some (decided .noReady)) none) (headIn .off) (headIn .off)).member .h0
          = some (decided .noReady) ∧ EntryOutcome.noReady ≠ .done)
      ∧ ((inFlight (frameOf .free .beforeD (some fresh) none) (headIn .standby) (headIn .off)).undecided .h0 = true
        ∧ (inFlight (frameOf .free .afterD (some (ticketed .timed)) none) (headIn .exposing) (headIn .off)).undecided .h0 = true) := by
  decide

/-- BEFORE_D, AFTER_D, and WINDOW with the other member ARMED. -/
theorem witness_ReadyArmsOrFires :
    (inFlight (frameOf .free .beforeD (some (ticketed .timed)) none) (headIn .ticketed) (headIn .off)).runs = true
      ∧ (frameOf .free .beforeD (some (ticketed .timed)) none).members.get .h0 = some (ticketed .timed)
      ∧ (ticketed .timed).outcome = none ∧ (ticketed .timed).ticket.isSome = true ∧ (7#32).toNat = 7
      ∧ (frameOf .free .afterD (some (ticketed .timed)) none).sync = .afterD
      ∧ (frameOf .locked .window (some (ticketed .timed)) (some (ticketed .bulb))).sync = .window
      ∧ ((inFlight (frameOf .locked .window (some (ticketed .timed)) (some (ticketed .bulb)))
          (headIn .ticketed) (headIn .armed)).heads.get .h1).state = .armed
      ∧ (frameOf .locked .window (some (ticketed .timed)) (some (ticketed .bulb))).members.h2 = none
      ∧ (frameOf .locked .window (some (ticketed .timed)) (some (ticketed .bulb))).members.h3 = none := by decide

theorem witness_ResultIsDelivered :
    (inFlight (frameOf .free .afterD (some (ticketed .bulb)) none) (headIn .exposing) (headIn .off)).runs = true
      ∧ (inFlight (frameOf .free .afterD (some (ticketed .bulb)) none) (headIn .exposing) (headIn .off)).hasPlace .h0 = true
      ∧ (frameOf .free .afterD (some (ticketed .bulb)) none).members.get .h0 = some (ticketed .bulb)
      ∧ ((ticketed .bulb).ticket.map (fun k => (k.exposure, k.mode))) = some (250, .bulb)
      ∧ ((inFlight (frameOf .free .afterD (some (ticketed .bulb)) none) (headIn .exposing) (headIn .off)).heads.get .h0).state = .exposing
      ∧ ((inFlight (frameOf .free .afterD (some (ticketed .timed)) none) (headIn .reporting) (headIn .off)).heads.get .h0).state
          = .reporting
      ∧ 1023 = min (0xFFFF#16).toNat 1023 := by decide

/-- A head in a state with one timer running, head 1 still at work in the same frame. -/
def timed (x : HeadSeq) : State := inFlight (frameOf .free .afterD (some fresh) (some fresh)) x (headIn .waking)

theorem witness_TimeoutsFailTheMember :
    ((timed { headIn .waking with hello := some 0 }).runs = true
        ∧ (timed { headIn .waking with hello := some 0 }).undecided .h0 = true
        ∧ (timed { headIn .waking with hello := some 0 }).memberFinished .h1 = false
        ∧ (timed { headIn .waking with hello := some 0 }).energy.voltageTier ≠ .halt
        ∧ ((timed { headIn .waking with hello := some 0 }).heads.get .h0).hello.isSome = true)
      ∧ ((timed { headIn .ticketed with ready := some 0 }).heads.get .h0).ready.isSome = true
      ∧ ((timed { headIn .reporting with result := some 0 }).heads.get .h0).result.isSome = true := by decide

/-- The interval 300 s against a standby threshold of 300 and of 299. -/
def closing (threshold : Nat) : State :=
  { timed { headIn .closing with grace := some 0 } with
    settings := { Settings.default with head := Four.all { HeadSettings.default with standbyThreshold := threshold } } }

theorem witness_GraceAndStandbyTimersEnd :
    ((closing 300).runs = true ∧ (closing 300).frame = some (frameOf .free .afterD (some fresh) (some fresh))
        ∧ ((closing 300).heads.get .h0).state = .closing ∧ ((closing 300).heads.get .h0).grace.isSome = true
        ∧ (closing 300).memberFinished .h1 = false ∧ (closing 300).energy.voltageTier ≠ .halt
        ∧ (frameOf .free .afterD (some fresh) (some fresh)).interval ≤ ((closing 300).settings.head.get .h0).standbyThreshold
        ∧ ((closing 300).heads.get .h0).exclusion = none ∧ ((closing 300).heads.get .h0).storageMark = false)
      ∧ ((closing 299).settings.head.get .h0).standbyThreshold < (frameOf .free .afterD (some fresh) (some fresh)).interval
      ∧ (({ State.reset with heads := State.reset.heads.set .h0 { headIn .standby with standby := some 0 } } : State).heads.get
          .h0).standby.isSome = true := by decide

/-- A member WAKING, one ARMED, and the arm timer running. -/
def waitingForOne : State :=
  { inFlight (frameOf .locked .window (some fresh) (some (ticketed .timed))) (headIn .waking) (headIn .armed) with
    armTimer := some 0 }

theorem witness_ArmWindowExpiryAbandons :
    waitingForOne.runs = true ∧ waitingForOne.frame = some (frameOf .locked .window (some fresh) (some (ticketed .timed)))
      ∧ waitingForOne.armTimer.isSome = true ∧ waitingForOne.undecided .h0 = true ∧ waitingForOne.undecided .h1 = true
      ∧ (waitingForOne.heads.get .h0).state = .waking ∧ (waitingForOne.heads.get .h1).state = .armed
      ∧ waitingForOne.undecided .h2 = false := by decide

theorem witness_ExposureAndPulseEnd :
    ({ inFlight (frameOf .free .afterD (some (ticketed .bulb)) none) (headIn .exposing) (headIn .off) with
        triggers := State.reset.triggers.set .h0 ⟨true, true, some 0, none⟩ } : State).member .h0 = some (ticketed .bulb)
      ∧ (⟨true, true, some 0, none⟩ : Trigger).bulb.isSome = true ∧ (⟨true, true, none, some 0⟩ : Trigger).pulse.isSome = true := by
  decide

/-- ReadyArmsOrFires and ExposureAndPulseEnd: a member whose entry has no ticket part, before its READY and while exposing. -/
theorem witness_member_without_ticket_part :
    (let s := inFlight (frameOf .free .afterD (some fresh) none) (headIn .ticketed) (headIn .off);
      s.runs = true ∧ s.hasPlace (headPort .h0) = true ∧ s.member .h0 = some fresh ∧ fresh.outcome = none ∧ fresh.ticket = none
        ∧ (s.heads.get .h0).state = .ticketed)
      ∧ (let s := { inFlight (frameOf .free .afterD (some fresh) none) (headIn .exposing) (headIn .off) with
            triggers := State.reset.triggers.set .h0 ⟨true, true, some 0, none⟩ };
        s.runs = true ∧ s.member .h0 = some fresh ∧ (s.triggers.get .h0).bulb.isSome = true
          ∧ (s.heads.get .h0).state = .exposing) := by
  decide

/-- A member whose entry has no ticket part fires at its READY after D, as R88 has it (spec/05). -/
theorem test_fires_without_ticket_part :
    (match exec (.ready .h0 0#8 7#32) (inFlight (frameOf .free .afterD (some fresh) none) (headIn .ticketed) (headIn .off)) with
      | .next t => (t.heads.get .h0).state = .exposing ∧ (t.triggers.get .h0).asserted = true
      | .fault _ | .refused _ => False) := by
  refine ⟨rfl, rfl⟩

theorem witness_ReadmitClearsTheMisses :
    excluded.Accepts .headReadmit .ul ∧ (3#8).toNat ≤ 3 ∧ (255#8).toNat = 255 ∧ 3 < (4#8).toNat ∧ (4#8).toNat ≠ 255 :=
  ⟨⟨by decide, by decide, by decide⟩, by decide, by decide, by decide, by decide⟩

theorem witness_RampReadAndReseed :
    State.reset.Accepts .rampRead .sv ∧ (3#8).toNat = headCode .h3 ∧ 3 < (4#8).toNat ∧ (255#8).toNat = 255 :=
  ⟨⟨by decide, by decide, by decide⟩, by decide, by decide, by decide⟩

/-- SmoothingStaysInTheSlew: a need in range, below 0 and above the top, a NONE reading, and an unseeded record. -/
theorem witness_SmoothingStaysInTheSlew_need :
    (let x := exampleInputs true 976;
      x.bv.isSome = true ∧ x.base ≤ (if x.reserve < x.interval then (x.interval - x.reserve) * 1000000 else x.base)
        ∧ ({ x with bv := some 3454, key := 0 } : TicketInputs).clampedNeed = 0
        ∧ ({ x with bv := some (-2176), key := 4095 } : TicketInputs).clampedNeed = x.top)
      ∧ ({ exampleInputs true 976 with bv := none } : TicketInputs).clampedNeed = 976
      ∧ ({ exampleInputs true 976 with bv := none, need := none } : TicketInputs).newNeed = 0 := by decide +kernel

/-- An applied need of 976 with the clamped need beyond the deadband, and one of 1,098 with it within. -/
theorem witness_SmoothingStaysInTheSlew :
    (exampleInputs true 976).need = some 976 ∧ 1 ≤ (exampleInputs true 976).slewLimit
      ∧ (exampleInputs true 976).deadband < ((exampleInputs true 976).clampedNeed - 976).natAbs
      ∧ 976 ≤ (exampleInputs true 976).top ∧ (exampleInputs true 976).smoothingWeight = 8
      ∧ ((exampleInputs true 1098).clampedNeed - 1098).natAbs ≤ (exampleInputs true 1098).deadband := by decide +kernel

theorem witness_LadderWalkPlacesTheNeed :
    10 ≤ (exampleInputs true 976).base ∧ (exampleInputs true 976).base ≤ 1000 ∧ 1 ≤ (exampleInputs true 976).reserve
      ∧ (exampleInputs false 940).gainControl = false ∧ (exampleInputs true 976).apertureControl = false := by decide

theorem witness_LogarithmFollowsItsTable : (1 : Nat) ≤ 1 ∧ (1 : Nat) ≤ 1048575 ∧ (6 : Nat) ≤ 11 ∧ (0 : Nat) < 6 := by decide

/-- A meter that is GATING with a count, SETTLING, or IDLE with its period timer at its end. -/
def gating (n : Nat) : State :=
  { State.reset with meter := { Meter.cold with activity := .gating, pulses := n, settleTimer := none, gateTimer := some 0 } }

theorem witness_MeterEventsRunTheReading :
    (gating 1048575).runs = true ∧ (gating 1048575).meter.activity = .gating ∧ (gating 1048575).meter.readingEdge = .rising
      ∧ (gating 0).meter.readingEdge ≠ .falling ∧ State.reset.meter.activity = .settling
      ∧ State.reset.meter.periodTimer.isSome = true ∧ State.reset.meter.activity ≠ .idle
      ∧ ({ Meter.cold with activity := .idle } : Meter).periodTimer.isSome = true ∧ 1 ≤ State.reset.settings.settle
      ∧ Setting.settle.rule.settle 0#32 = (0, .ok) := by decide

/-- Readings of a count of 0, of a saturated count, and of 3,072 that is STABLE against a level of 741. -/
theorem witness_ReadingCompletes :
    (gating 0).runs = true ∧ (gating 0).meter.activity = .gating ∧ (gating 0).completedReading.state = .dark
      ∧ (gating 1048575).completedReading.state = .saturated
      ∧ ({ gating 3072 with meter := { (gating 3072).meter with previousLevel := some 741 } } : State).completedReading
          = ⟨.stable, 741, 3072, .s1, 0⟩
      ∧ (gating 3072).completedReading.state = .unstable ∧ (gating 3072).sched.run = .held
      ∧ ({ Scheduler.cold with run := .running } : Scheduler).run = .running := by decide

/-- 12,400 mV, which leave the tier NORMAL, and 10,999 mV, which bring HALT. -/
theorem witness_MeasurementTakesAReading :
    State.reset.runs = true ∧ State.reset.energy.measureTimer.isSome = true ∧ State.reset.frame = none
      ∧ worse (judgeVoltage State.reset.settings .normal (min State.reset.bsense.level 16383)) State.reset.energy.floor.tier
          = State.reset.energy.effective
      ∧ worse (judgeVoltage State.reset.settings .normal 10999) State.reset.energy.floor.tier = .halt := by decide

theorem witness_VoltageTierHasHysteresis :
    10999 < Settings.default.haltThreshold ∧ Settings.default.haltThreshold ≤ 11000
      ∧ 11199 < Settings.default.haltThreshold + Settings.default.tierHysteresis
      ∧ Settings.default.haltThreshold + Settings.default.tierHysteresis ≤ 11200
      ∧ 11599 < Settings.default.reserveThreshold + Settings.default.tierHysteresis
      ∧ Settings.default.economyThreshold + Settings.default.tierHysteresis ≤ 12000
      ∧ Settings.default.reserveThreshold ≤ 11799 ∧ 11799 < Settings.default.economyThreshold := by decide

theorem witness_StoppingKeepsTheRetentionDomain :
    ∃ s : State, ∃ supply : Supply, supply = { s.supply with mainPresent := false } ∧ s.runs = true :=
  ⟨State.reset, ⟨false, false⟩, rfl, rfl⟩

/-- With 12,400 mV the tier is NORMAL, with 10,999 mV HALT. -/
theorem witness_ColdStartIsReset :
    12400 = min State.reset.bsense.level 16383 ∧ Tier.normal = judgeVoltage Settings.default .normal 12400
      ∧ Tier.halt = judgeVoltage Settings.default .normal 10999 := by decide

/-- Held with no frame; held with a frame interrupted and a swap pending. -/
theorem witness_WarmStartResumesAHeldPart :
    (stopped.frame = none ∧ stopped.sched.run = .held)
      ∧ (inFlight (frameOf .free .afterD (some (decided .done)) (some fresh)) (headIn .closing) (headIn .waking)).frame
          = some (frameOf .free .afterD (some (decided .done)) (some fresh))
      ∧ (inFlight (frameOf .free .afterD (some (decided .done)) (some fresh)) (headIn .closing) (headIn .waking)).sched.run = .held
      ∧ swapWaits.plan.swapPending = some 0 := by decide

/-- A frame in flight that waits for a HELLO, which has every relation of Sys2Proof/Safety.lean and from which a step goes on. -/
def awaitingHello : State :=
  inFlight (frameOf .free .beforeD (some fresh) none) { headIn .waking with hello := some 30000 } (headIn .off)

theorem witness_StepKeepsPortsBounded :
    (∃ t : State, step awaitingHello = .next t) ∧ awaitingHello.QueuesBounded ∧ awaitingHello.ErrorsBounded :=
  ⟨⟨_, rfl⟩, by intro p; cases p <;> decide, by intro p; cases p <;> (unfold ErrorCounts.Bounded; decide)⟩

theorem witness_StepKeepsHeadsInOrder :
    (∃ t : State, step awaitingHello = .next t) ∧ awaitingHello.TimersPlaced ∧ awaitingHello.TriggersFollowRails
      ∧ awaitingHello.AwakeOnlyInFrame :=
  ⟨⟨_, rfl⟩, by intro h; cases h <;> (unfold HeadSeq.TimersPlaced; decide),
    by intro h; cases h <;> (unfold Trigger.Quiet; decide), by intro h; cases h <;> decide⟩

theorem witness_StepKeepsTierAndCorrections :
    (∃ t : State, step awaitingHello = .next t) ∧ awaitingHello.EffectiveIsWorse ∧ awaitingHello.CorrectionsBounded :=
  ⟨⟨_, rfl⟩, by unfold State.EffectiveIsWorse; decide, by decide, by intro h; cases h <;> decide⟩

theorem witness_StepKeepsTheJournal : (∃ t : State, step awaitingHello = .next t) ∧ awaitingHello.JournalKept :=
  ⟨⟨_, rfl⟩, by decide, by decide, trivial, by intro f h; cases h; rfl, by decide⟩

theorem witness_StepKeepsThePlanAndSchedule :
    (∃ t : State, step awaitingHello = .next t) ∧ awaitingHello.PlanValid ∧ awaitingHello.SwapWaitsForFrame
      ∧ awaitingHello.DueTogether ∧ ({ awaitingHello with plan := { Plan.cold with swapPending := some 0 } } : State).SwapWaitsForFrame :=
  ⟨⟨_, rfl⟩, ⟨by decide, by intro e h; cases h⟩, by unfold State.SwapWaitsForFrame; decide, by unfold State.DueTogether; decide,
    by unfold State.SwapWaitsForFrame; decide⟩

/-! ## Further clauses of the same statements -/

/-- A message with an effect is the only one of a queue. -/
def sending (s : State) (p : Port) (e : Effect) : State := s.modPort p (fun x => { x with queue := [⟨[0xA4#8], some e⟩] })

/-- SentMessageFreesItsPlace: a line speed that waits at UL, a head port whose rail is off, a head in STANDBY, one in CLOSING
with a storage mark beside a member at work, and an undecided one beside a member that is awake. -/
theorem witness_SentMessageFreesItsPlace_resets :
    (let t := queued .ul [⟨[0xB4#8], some (.lineSpeed .h0 .b9600)⟩];
      (t.ports.get .ul).queue.length ≤ 4
        ∧ (t.ports.get .ul).queue.filterMap (·.effect)
          = [(Port.h0, LineSpeed.b9600)].map (fun w => Effect.lineSpeed w.1 w.2))
      ∧ (let s := sending State.reset .sv (.portReset (headPort .h0));
        s.undecided .h0 = false ∧ (s.heads.get .h0).state = .off ∧ s.runs = true ∧ s.frame = none)
      ∧ (let s := sending { State.reset with heads := State.reset.heads.set .h0 (headIn .standby) } .sv (.portReset .h0);
        s.undecided .h0 = false ∧ (s.heads.get .h0).state ≠ .off ∧ s.energy.voltageTier ≠ .halt ∧ s.frame = none
          ∧ s.sched.run = .held)
      ∧ (let s := sending (inFlight (frameOf .free .afterD (some (decided .done)) (some fresh))
          { headIn .closing with storageMark := true } (headIn .waking)) .sv (.portReset .h0);
        s.undecided .h0 = false ∧ (s.heads.get .h0).state = .closing ∧ s.memberFinished .h1 = false
          ∧ s.frameFinished = false)
      ∧ (let s := sending (inFlight (frameOf .locked .waiting (some fresh) (some fresh)) (headIn .waking) (headIn .waking))
          .sv (.portReset .h0);
        s.undecided .h0 = true ∧ (s.member .h1).isSome = true ∧ (s.heads.get .h1).state = .waking
          ∧ s.frameFinished = false) := by decide

/-- A running schedule of an INVALID clock whose open time is at 1 and whose due time at 16, with one head set. -/
def opening (x : HeadSeq) : State :=
  { State.reset with
    sched := { Scheduler.cold with run := .running, due := some 16, openTime := some 1, lastDue := some 16 }
    heads := ⟨x, HeadSeq.cold, HeadSeq.cold, HeadSeq.cold⟩ }

/-- A running part of a VALID clock whose one phase starts at one second past midnight. -/
def atOne : State :=
  { State.reset with
    time := ⟨0, true, 0, 0⟩
    sched := { Scheduler.cold with run := .running }
    plan := { Plan.cold with bankA := ⟨[{ defaultPhase with start := .atTime 1 }], defaultBank.ladder⟩ } }

/-- A member that wakes at 1. -/
def sleeper : Member := ⟨1, false, none, none, none⟩

theorem witness_SecondsCountAdvances_running :
    State.reset.AdvanceRests ∧ State.reset.NoEntryAhead ∧ (opening HeadSeq.cold).AdvanceRests
      ∧ (opening HeadSeq.cold).NoEntryAhead ∧ atOne.AdvanceRests
      ∧ (atOne.sched.run = .running ∧ atOne.time.valid = true ∧ atOne.plan.successor.start = .atTime ((0 + 1) % 86400)
        ∧ atOne.computeDue.openReached = false)
      ∧ (emptyGroup (opening HeadSeq.cold).group = false
        ∧ emptyGroup (opening { HeadSeq.cold with exclusion := some .misses }).group = true
        ∧ (16 : Int) - ((opening HeadSeq.cold).settings.head.get .h0).lead = 1) :=
  ⟨⟨rfl, by decide⟩, .inl rfl, ⟨rfl, by decide⟩, .inr (.inl rfl), ⟨rfl, by decide⟩, by decide, by decide⟩

/-- At an advance to 1 nothing falls in a frame past D whose member has been woken, and one wake time falls in another, for a
head that is OFF and for one in STANDBY. -/
theorem witness_SecondsCountAdvances_in_a_frame :
    (frameOf .free .afterD (some fresh) none).QuietAt 1 ∧ (frameOf .free .afterD (some fresh) none).QuietAt 4294967296
      ∧ (frameOf .free .beforeD (some sleeper) none).QuietBut 1 .h0
      ∧ (inFlight (frameOf .free .afterD (some fresh) none) (headIn .waking) (headIn .off)).frameFinished = false
      ∧ (sleeper.outcome = none ∧ sleeper.reached = false ∧ sleeper.wakeTime ≤ 1)
      ∧ (inFlight (frameOf .free .beforeD (some sleeper) none) (headIn .standby) (headIn .off)).hasPlace (headPort .h0) = true
      ∧ (inFlight (frameOf .free .beforeD (some sleeper) none) (headIn .off) (headIn .off)).AdvanceRests := by
  refine ⟨?_, ?_, ⟨.inl (by decide), ?_⟩, by decide, by decide, by decide, ⟨rfl, by decide⟩⟩
  · exact fun h => ⟨.inr (by decide), fun k m _ hm => by cases k <;> cases hm; exact .inl rfl⟩
  · exact fun h => ⟨.inr (by decide), fun k m _ hm => by cases k <;> cases hm; exact .inl rfl⟩
  · intro k m hk hm
    cases k with
    | h0 => exact absurd rfl hk
    | h1 | h2 | h3 => cases hm

/-- Two settings of the clock leave a wake time alone that has been reached, and move one that has not. -/
theorem test_a_reached_wake_time_shifts_no_more :
    (((after (.clockSet .sv 2#8 100#32) (after (.clockSet .sv 1#8 50#32)
        (inFlight (frameOf .free .beforeD (some fresh) (some sleeper)) (headIn .waking) (headIn .off)))).frame.map
      (fun f => (f.due, f.members.h0.map (·.wakeTime), f.members.h1.map (·.wakeTime))))
      = some (115, some 0, some 101)) := by decide +kernel

/-- DueTimeIsTheFirstAhead: a last due time with the interval unchanged. -/
theorem witness_DueTimeIsTheFirstAhead_again :
    let s : State := { anchored 999000 .frame with
      sched := { (anchored 999000 .frame).sched with lastDue := some 1000200 } };
    s.sched.lastDue = some 1000200 ∧ s.computeDue.sched.interval = s.sched.interval := by decide

theorem witness_StoredSettingReadsBack_coded :
    (1#32).toNat ≤ 1 ∧ 1 < (2#32).toNat ∧ ¬((10 : Nat) ≤ (9#32).toNat) ∧ ¬((-2049 : BitVec 32).toInt ≥ -2048) := by decide

/-- ConfigWriteStores: the eight settings that act at the write, with values at the bound of each clause. -/
theorem witness_ConfigWriteStores_acting :
    (settingOf 0x03 0 = some .meterPeriod ∧ settingOf 0x21 5 = some (.errorThreshold .sv) ∧ settingOf 0x10 0 = some .fillLevel
        ∧ settingOf 0x0E 0 = some .allowance)
      ∧ (∃ n : Nat, settingOf n 0 = some (.lead .h0)) ∧ (∃ n : Nat, settingOf n 0 = some (.missLimit .h0))
      ∧ (∃ n : Nat, settingOf n 0 = some (.cycleReserve .h0)) ∧ (∃ n : Nat, settingOf n 0 = some (.polarity .h0))
      ∧ Setting.meterPeriod.rule.settle 60#32 = (60, .ok) ∧ (Setting.errorThreshold .sv).rule.settle 1#32 = (1, .ok)
      ∧ (⟨1, 0, 0, 0, 0⟩ : ErrorCounts).total = 1 ∧ Setting.fillLevel.rule.settle 3#32 = (3, .ok)
      ∧ withRing.journal.unacknowledged = 3 ∧ withRing.journal.fillRaised = false
      ∧ Setting.allowance.rule.settle 5#32 = (5, .ok) ∧ State.reset.TierChangeRests
      ∧ (inFlight (frameOf .free .beforeD (some fresh) none) (headIn .waking) (headIn .off)).TierChangeRests
      ∧ (Setting.missLimit .h0).rule.settle 3#32 = (3, .ok)
      ∧ (({ State.reset with heads := State.reset.heads.set .h0 { headIn .standby with miss := 3 } } : State).heads.get .h0).miss = 3
      ∧ (Setting.lead .h0).rule.settle 120#32 = (120, .ok)
      ∧ ({ State.reset with settings := State.reset.settings.store 120 (.lead .h0) } : State).computeDue.openReached = false :=
  ⟨by decide, ⟨0x30, by decide⟩, ⟨0x35, by decide⟩, ⟨0x36, by decide⟩, ⟨0x3B, by decide⟩, by decide, by decide, by decide,
    by decide, by decide, by decide, by decide, ⟨by decide, .inl ⟨rfl, rfl⟩⟩, ⟨by decide, .inr ⟨rfl, by decide⟩⟩, by decide,
    by decide, by decide, by decide⟩

/-- StoredPhaseIsInRange: each start kind, with numbers in and out of range. -/
theorem witness_StoredPhaseIsInRange_kinds :
    (∃ ph : Phase, putPhase (rawPhase 0#8 0#8 1#8 0#8 300#32) = .inr (ph, false) ∧ ph.start = .atTime 0)
      ∧ (∃ ph : Phase, putPhase (rawPhase 1#8 1#8 1#8 0#8 86401#32) = .inr (ph, true) ∧ ph.interval = 86400)
      ∧ (∃ ph : Phase, putPhase (rawPhase 2#8 0#8 1#8 1#8 1#32) = .inr (ph, true) ∧ ph.interval = 2) :=
  ⟨⟨_, rfl, by decide⟩, ⟨_, rfl, by decide⟩, ⟨_, rfl, by decide⟩⟩

/-- The phase after a limit, alone in its plan, with frames to go. -/
def limited (n : Nat) : Plan :=
  { Plan.cold with
    bankA := ⟨[{ defaultPhase with start := .afterLimit, frameLimit := some 2 }], defaultBank.ladder⟩, remaining := some n }

/-- AppendDeliversToEachStation: a frame that counts as the last and as the last but one, one that was forced, one with a swap
pending, and one that moves the anchor of a held schedule. -/
theorem witness_AppendDeliversToEachStation_close :
    (limited 1).Counts (frameOf .free .afterD none none) .ok ∧ (limited 2).Counts (frameOf .free .afterD none none) .partially
      ∧ (limited 1).remaining = some (0 + 1) ∧ (limited 2).remaining = some (1 + 1) ∧ (limited 1).successor.start = .afterLimit
      ∧ ¬(limited 1).Counts { frameOf .free .afterD none none with forced := true } .ok
      ∧ swapWaits.plan.swapPending = some 0 ∧ (limited 1).swapPending = none
      ∧ ((frameOf .free .afterD none none).forced = false ∧ (frameOf .free .afterD none none).resumedInFlight = false)
      ∧ ({ State.reset with sched := { Scheduler.cold with anchor := some ⟨15, .frame⟩ } } : State).computeDue.openReached = false :=
  ⟨⟨.inl rfl, rfl, rfl, rfl⟩, ⟨.inr rfl, rfl, rfl, rfl⟩, rfl, rfl, rfl, fun h => Bool.noConfusion h.2.1, rfl, rfl, ⟨rfl, rfl⟩,
    by decide⟩

/-- A head in a state in the frame of sequence 7, its ticket issued, and its record holding the summary of that ticket. -/
def issued (st : HeadState) : State :=
  { inFlight (frameOf .free .beforeD (some (ticketed .timed)) none) (headIn st) (headIn .off) with
    ramps := State.reset.ramps.set .h0
      { RampRecord.cold with need := some 0, lastTicket := some ⟨7, 250, 0, 0, ⟨false, false, false, false, false⟩⟩ } }

theorem witness_HeadMessagesOutOfPlace_states :
    ((issued .ticketed).undecided .h0 = true ∧ (issued .armed).undecided .h0 = true ∧ (issued .waking).undecided .h0 = true
        ∧ (issued .reporting).undecided .h0 = true ∧ ((issued .armed).heads.get .h0).state = .armed)
      ∧ ((issued .ticketed).frame = some (frameOf .free .beforeD (some (ticketed .timed)) none)
        ∧ (ticketed .timed).outcome = none ∧ (7#32).toNat = 7 ∧ (8#32).toNat ≠ 7)
      ∧ (((issued .ticketed).ramps.get .h0).lastTicket.map (·.sequence)) = some 7
      ∧ ((decided .done).outcome = some .done ∧ (frameOf .free .afterD (some (decided .done)) none).sequence = 7) := by decide

/-- A frame whose D, 15, is reached at the next advance, one arm window or none. -/
def atD (sync : Sync) (window : Nat) (m0 m1 : Option Member) (x0 x1 : HeadSeq) : State :=
  { inFlight { frameOf .locked sync m0 m1 with phase := { defaultPhase with sync := .locked, armWindow := window } } x0 x1 with
    time := ⟨14, false, 0, 0⟩ }

/-- ReadyArmsOrFires: D with an ARMED member of a FREE frame, with every member ARMED, and with one not. -/
theorem witness_ReadyArmsOrFires_at_D :
    (atD .beforeD 5 (some (ticketed .timed)) none (headIn .armed) (headIn .off)).AdvanceRests
      ∧ (atD .beforeD 5 (some (ticketed .timed)) none (headIn .armed) (headIn .off)).NoEntryAhead
      ∧ (atD .beforeD 5 (some (ticketed .timed)) none (headIn .armed) (headIn .off)).frameFinished = false
      ∧ (ticketed .timed).reached = true ∧ (frameOf .locked .waiting none none).due ≤ 15
      ∧ ((atD .waiting 5 (some (ticketed .timed)) none (headIn .armed) (headIn .off)).heads.get .h0).state = .armed
      ∧ (let s := atD .waiting 0 (some fresh) (some (ticketed .timed)) (headIn .waking) (headIn .armed);
        s.undecided .h0 = true ∧ (s.heads.get .h0).state = .waking ∧ s.frameFinished = false) :=
  ⟨⟨rfl, by decide⟩, .inl rfl, by decide, rfl, by decide, by decide, by decide⟩

/-- TimeoutsFailTheMember and GraceAndStandbyTimersEnd: the last member, by its timer and out of CLOSING, the part HELD and the
battery at 12,400 mV. -/
theorem witness_Timers_close_the_frame :
    (let s := inFlight (frameOf .free .afterD (some fresh) none) { headIn .waking with hello := some 0 } (headIn .off);
      s.ClosesWith .h0 ∧ s.CloseStaysOutOfHalt ∧ s.undecided .h0 = true ∧ s.sched.run = .held)
      ∧ (let s := inFlight (frameOf .free .afterD (some (decided .done)) none) { headIn .closing with grace := some 0 } (headIn .off);
        s.ClosesWith .h0 ∧ s.CloseStaysOutOfHalt ∧ s.undecided .h0 = false ∧ (s.member .h0).isSome = true
          ∧ s.sched.run = .held ∧ s.energy.effective ≠ .halt
          ∧ (s.settings.head.get .h0).standbyThreshold < (frameOf .free .afterD none none).interval) := by
  refine ⟨⟨?_, by unfold State.CloseStaysOutOfHalt; decide, by decide, by decide⟩,
    ⟨?_, by unfold State.CloseStaysOutOfHalt; decide, by decide, by decide, by decide, by decide, by decide⟩⟩
  · intro g hg; cases g <;> first | exact absurd rfl hg | decide
  · intro g hg; cases g <;> first | exact absurd rfl hg | decide

/-- GraceAndStandbyTimersEnd: a head of its frame still in STANDBY while the sequence runs, the spend leaving the tier. -/
theorem witness_GraceAndStandbyTimersEnd_running :
    (let s : State := { inFlight (frameOf .free .afterD (some fresh) none) { headIn .standby with standby := some 0 }
          (headIn .off) with sched := { Scheduler.cold with run := .running } };
      s.runs = true ∧ (s.heads.get .h0).state = .standby ∧ (s.heads.get .h0).standby.isSome = true ∧ s.undecided .h0 = true
        ∧ worse s.energy.voltageTier (floorOf s.settings.allowance (min (s.energy.spend + (s.energy.onTime.get .h0).ms
            * (s.settings.head.get .h0).current / 1000) 4294967295)).tier = s.energy.effective) := by decide

/-- TimeoutsFailTheMember and ArmWindowExpiryAbandons: the miss that reaches the default limit of 3, and the one before. -/
theorem witness_Misses_reach_the_limit :
    (let s := timed { headIn .waking with hello := some 0, miss := 2 };
      (s.heads.get .h0).exclusion = none ∧ (s.settings.head.get .h0).missLimit = min ((s.heads.get .h0).miss + 1) 15)
      ∧ (let s := timed { headIn .waking with hello := some 0, miss := 1 };
        min ((s.heads.get .h0).miss + 1) 15 < (s.settings.head.get .h0).missLimit)
      ∧ ((after .armTimerExpiry { waitingForOne with
          heads := waitingForOne.heads.set .h0 { headIn .waking with miss := 2 } }).heads.get .h0).exclusion = some .misses := by
  decide

/-- ResumeStartsTheSchedule: a frame in flight, an exhausted phase before each kind of successor, and HALT. -/
theorem witness_ResumeStartsTheSchedule_waits :
    (let s := inFlight (frameOf .free .afterD (some fresh) none) (headIn .waking) (headIn .off);
      s.Accepts .seqResume .ul ∧ s.sched.run = .held ∧ s.frame.isSome = true ∧ s.sched.due = none ∧ s.sched.openTime = none
        ∧ s.exhausted = false)
      ∧ (let s : State := { leading 4 with plan := { Plan.cold with
            bankA := ⟨[{ defaultPhase with start := .afterLimit, frameLimit := some 5 }], defaultBank.ladder⟩
            remaining := some 0 } };
        s.exhausted = true ∧ s.plan.successor.start = .afterLimit ∧ s.plan.successor.frameLimit ≠ some 0)
      ∧ (let s : State := { leading 4 with plan := { Plan.cold with
            bankA := ⟨[{ defaultPhase with start := .atTime 0 }], defaultBank.ladder⟩, remaining := some 0 } };
        s.exhausted = true ∧ s.plan.successor.start ≠ .afterLimit)
      ∧ halted.exhausted = false ∧ halted.energy.effective = .halt ∧ halted.frame = none :=
  ⟨⟨⟨by decide, by decide, by decide⟩, by decide, by decide, by decide, by decide, by decide⟩, by decide, by decide, by decide,
    by decide, by decide⟩

/-- A running plan whose successor waits for light at or below, or at or above, a level, three readings long. -/
def lightPlan (start : Start) : State :=
  { gating 0 with
    sched := { Scheduler.cold with run := .running }
    plan := { Plan.cold with bankA := ⟨[{ defaultPhase with start := start }], defaultBank.ladder⟩ } }

/-- ReadingCompletes: both light-dependent starts; a DARK reading after a DARK one, and one after none; the gates' bounds. -/
theorem witness_ReadingCompletes_light :
    ((lightPlan (.onDarker 100 3)).sched.run = .running ∧ (lightPlan (.onDarker 100 3)).plan.successor.start = .onDarker 100 3
        ∧ (lightPlan (.onBrighter 100 3)).plan.successor.start = .onBrighter 100 3
        ∧ (lightPlan .afterLimit).plan.successor.start = .afterLimit ∧ (lightPlan (.atTime 0)).plan.successor.start = .atTime 0)
      ∧ ((lightPlan (.onDarker 100 3)).completedReading.state = .dark
        ∧ (lightPlan (.onDarker 100 3)).meter.latest.map (·.state) ≠ some .dark
        ∧ ((some (⟨.dark, -128, 0, .s1, 0⟩ : Reading)).map (·.state)) = some .dark
        ∧ (lightPlan (.onDarker 100 3)).plan.confirm + 1 < 3)
      ∧ nextGate 1023 .s1 = .s4 ∧ nextGate 1024 .s1 = .s1 ∧ nextGate 262143 .s1 = .s1 ∧ nextGate 262144 .s1 = .ms250 := by decide

/-- A part with a battery at a level, from a tier. -/
def battery (level : Nat) (tier : Tier) : State :=
  { State.reset with bsense := ⟨level, []⟩, energy := { Energy.cold with voltageTier := tier, effective := tier } }

/-- MeasurementTakesAReading: a fall to ECONOMY, the exit from HALT, and HALT with a frame in flight that the measurement of the
close confirms. -/
theorem witness_MeasurementTakesAReading_changes :
    (let s := battery 11799 .normal;
      judgeVoltage s.settings .normal (min s.bsense.level 16383) = .economy ∧ s.frame = none
        ∧ worse .economy s.energy.floor.tier ≠ s.energy.effective ∧ s.computeDue.openReached = false)
      ∧ (let s := battery 12000 .halt;
        judgeVoltage s.settings .halt (min s.bsense.level 16383) = .normal
          ∧ worse .normal s.energy.floor.tier ≠ s.energy.effective)
      ∧ (let s : State := { inFlight (frameOf .free .afterD (some fresh) none) (headIn .waking) (headIn .off) with
          bsense := ⟨10999, []⟩ };
        judgeVoltage s.settings .normal (min s.bsense.level 16383) = .halt ∧ worse .halt s.energy.floor.tier = .halt
          ∧ worse .halt s.energy.floor.tier ≠ s.energy.effective
          ∧ judgeVoltage s.settings .halt (min s.bsense.advance.level 16383) = .halt ∧ s.frameFinished = false) := by decide

/-- VoltageTierHasHysteresis: the fall to RESERVE, the readings between, and the rises. -/
theorem witness_VoltageTierHasHysteresis_between :
    judgeVoltage Settings.default .economy 11399 = .reserve ∧ judgeVoltage Settings.default .economy 11400 = .economy
      ∧ judgeVoltage Settings.default .economy 11999 = .economy ∧ judgeVoltage Settings.default .reserve 11400 = .reserve
      ∧ judgeVoltage Settings.default .halt 11599 = .reserve ∧ judgeVoltage Settings.default .halt 11999 = .economy
      ∧ judgeVoltage Settings.default .normal 11800 = .normal := by decide

/-- WarmStartResumesAHeldPart: a RUNNING part with a due time missed, one in HALT, and one with a frame interrupted. -/
theorem witness_WarmStart_of_a_running_part :
    (let s : State := { leading 4 with sched := { Scheduler.cold with run := .running, due := some 0 } };
      s.frame = none ∧ s.sched.run = .running ∧ 1 ≤ s.sched.interval ∧ s.exhausted = false ∧ s.sched.due = some 0
        ∧ judgeVoltage s.settings s.energy.voltageTier (min s.bsense.level 16383) ≠ .halt
        ∧ allHeads (fun h => decide ((s.settings.head.get h).lead ≤ 4)) = true)
      ∧ judgeVoltage Settings.default .normal 10999 = .halt
      ∧ (let s : State := { leading 4 with
          frame := some (frameOf .free .afterD (some fresh) none), sched := { Scheduler.cold with run := .running } };
        s.frame.isSome = true ∧ s.plan.swapPending = none ∧ s.exhausted = false
          ∧ judgeVoltage s.settings .normal (min s.bsense.level 16383) = .normal
          ∧ judgeVoltage s.settings .normal (min s.bsense.advance.level 16383) ≠ .halt) := by decide

/-! ## Wider clauses of the same statements -/

/-- The part runs a schedule at 86,399 s of the VALID clock, with a spend of 5, an excluded head and a voltage tier. -/
def midnightOf (tier effective : Tier) (frame : Option Frame) : State :=
  { State.reset with
    time := ⟨86399, true, 0, 0⟩
    sched := { Scheduler.cold with run := .running }
    energy := { Energy.cold with spend := 5, floor := .economy, voltageTier := tier, effective := effective }
    heads := State.reset.heads.set .h0 { headIn .waking with miss := 3, exclusion := some .misses, storageMark := true }
    frame := frame }

/-- SecondsCountAdvancesAndRollsOver: a running part rolls over with a frame in flight, its tier changed or not; with no frame
and a tier that changes, before a plan that meets midnight and one that does not; and at the wrap. -/
theorem witness_SecondsCountAdvances_at_midnight :
    (midnightOf .normal .economy (some (frameOf .free .afterD (some fresh) none))).AdvanceRests
      ∧ (midnightOf .economy .economy none).AdvanceRests
      ∧ (midnightOf .normal .economy none).midnight = true
      ∧ (midnightOf .normal .economy none).advanced.computeDue.openReached = false
      ∧ ({ midnightOf .normal .economy none with plan := atOne.plan } : State).NoEntryAhead
      ∧ (let s := midnightOf .normal .economy none;
        s.runs = true ∧ s.plan.successor.start = .atTime (s.nextSecond % 86400))
      ∧ (let s : State := { midnightOf .normal .normal none with time := ⟨4294967295, true, 0, 0⟩ };
        s.midnight = true ∧ s.AdvanceRests) :=
  ⟨⟨rfl, fun _ => .inr ⟨by decide, .inl rfl⟩⟩, ⟨rfl, fun _ => .inl rfl⟩, by decide, by decide, .inr (.inr (by decide)),
    by decide, by decide, ⟨rfl, fun _ => .inl rfl⟩⟩

/-- The rollover of a running part with a frame in flight: the spend 0, the head admitted, the tier that of the voltage. -/
theorem test_a_rollover_spares_no_running_part :
    (let t := after .secondsCountAdvance (midnightOf .normal .economy (some (frameOf .free .afterD (some fresh) none)));
      (t.energy.spend, t.energy.effective, (t.heads.get .h0).miss, (t.heads.get .h0).exclusion, t.frame.isSome)
        = (0, .normal, 0, none, true)) := by decide +kernel

/-- SentMessageFreesItsPlace: the reset of a head in STANDBY of a running part with no frame, of an undecided member with none
awake beside it, of the last member at work, of one in WAITING whose other member is OFF, and of the last one in CLOSING. -/
theorem witness_SentMessageFreesItsPlace_running :
    (let s := sending { midnightOf .normal .economy none with heads := State.reset.heads.set .h0 (headIn .standby) } .sv
        (.portReset .h0);
      s.undecided .h0 = false ∧ (s.heads.get .h0).state ≠ .off ∧ s.sched.run = .running ∧ s.frame = none
        ∧ s.energy.voltageTier ≠ .halt)
      ∧ (let s := sending (inFlight (frameOf .free .beforeD (some fresh) (some sleeper)) (headIn .waking) (headIn .off)) .sv
          (.portReset .h0);
        s.undecided .h0 = true ∧ s.memberFinished .h1 = false ∧ s.frameFinished = false)
      ∧ (let s := sending (inFlight (frameOf .free .afterD (some fresh) (some (decided .done))) (headIn .waking) (headIn .standby))
          .sv (.portReset .h0);
        s.undecided .h0 = true ∧ (s.heads.get .h1).state = .standby ∧ (decided .done).outcome.isSome = true
          ∧ s.frameFinished = false)
      ∧ (let s := sending (inFlight (frameOf .locked .waiting (some fresh) (some sleeper)) (headIn .waking) (headIn .off)) .sv
          (.portReset .h0);
        s.undecided .h0 = true ∧ (s.heads.get .h1).state = .off ∧ s.frameFinished = false)
      ∧ (let s := sending (inFlight (frameOf .free .afterD (some (decided .done)) none) (headIn .closing) (headIn .off)) .sv
          (.portReset .h0);
        s.undecided .h0 = false ∧ (s.heads.get .h0).state = .closing ∧ s.memberFinished .h1 = true
          ∧ s.memberFinished .h2 = true ∧ s.memberFinished .h3 = true ∧ s.frameFinished = false) := by decide

/-- ConfigWriteStores: an allowance of 5 brings ECONOMY to a running part with no frame in flight, and a miss limit of 3
excludes its head in STANDBY. -/
theorem witness_ConfigWriteStores_running :
    (let s := { midnightOf .normal .normal none with
        heads := State.reset.heads.set .h0 { headIn .standby with miss := 3 } };
      s.sched.run = .running ∧ s.frame = none ∧ (5 : Int) ≤ s.energy.spend ∧ worse s.energy.voltageTier .economy = .economy
        ∧ ({ s with energy := { s.energy with floor := .economy, effective := .economy } } : State).computeDue.openReached = false
        ∧ (s.heads.get .h0).exclusion = none ∧ (s.heads.get .h0).miss = 3 ∧ (s.heads.get .h0).state = .standby) := by decide

/-- ReadyArmsOrFires: READY in WINDOW while another member is still waking. -/
theorem witness_ReadyArmsOrFires_in_the_window :
    (let s := inFlight (frameOf .locked .window (some (ticketed .timed)) (some fresh)) (headIn .ticketed) (headIn .waking);
      (s.heads.get .h0).state = .ticketed ∧ (ticketed .timed).outcome = none ∧ (s.heads.get .h1).state ≠ .armed
        ∧ ((s.frame.map (·.members)).bind (·.h1)).isSome = true) := by decide

/-- A voltage shown at BSENSE with a start or a measurement is the one that is judged. -/
theorem test_the_voltage_shown_is_judged :
    (after (.measurementTimerExpiry [11799]) State.reset).energy.reading = 11799
      ∧ (after (.coldStart [10999]) State.reset).energy.voltageTier = .halt
      ∧ (after (.warmStart [10999]) stopped).energy.voltageTier = .halt := by decide +kernel

end Sys2Proof.Tests
end

/-! ## The plan edits: clear, copy, phase records and the ladder -/

namespace Sys2Proof.Machine

/-! ### Banks and the request of an edit -/

@[simp] theorem Plan.shadowBank_setShadow (pl : Plan) (b : Bank) : (pl.setShadow b).shadowBank = b := by
  cases ha : pl.active <;> simp [Plan.setShadow, Plan.shadowBank, Plan.bank, BankId.other, ha]

@[simp] theorem Plan.activeBank_setShadow (pl : Plan) (b : Bank) : (pl.setShadow b).activeBank = pl.activeBank := by
  cases ha : pl.active <;> simp [Plan.setShadow, Plan.activeBank, Plan.bank, ha]

/-- Only the banks differ after the shadow bank has been replaced. -/
theorem Plan.setShadow_eq_with_banks (pl : Plan) (b : Bank) :
    pl.setShadow b = { pl with bankA := (pl.setShadow b).bankA, bankB := (pl.setShadow b).bankB } := by
  cases ha : pl.active <;> simp [Plan.setShadow, ha]

/-- The holder's edit is made when no swap is pending (spec/01 R6). -/
theorem State.planEdit_of_holder {s : State} {p : Port} (refusal : List Byte) (edit : State → State × Reply)
    (holds : s.flags.i0 = some p) (settled : s.plan.swapPending = none) : s.planEdit p refusal edit = edit s := by
  simp [State.planEdit, holds, settled]

/-- An edit that leaves the ports alone and answers the same whatever they are assembling. -/
structure LeavesPorts (edit : State → State × Reply) : Prop where
  ports : ∀ s : State, (edit s).1.ports = s.ports
  assembly : ∀ (s : State) (p : Port), edit (s.rxToHunt p) = ((edit s).1.rxToHunt p, (edit s).2)

/-- An accepted request for an edit, from the holder and with no swap pending, is answered after the edit of the state as it
was. -/
theorem State.request_planEdit {s u : State} {k : Kind} {p : Port} {tag : Byte} {edit : State → State × Reply} {st : Status}
    {fields : List Byte} (refusal : State → List Byte) (leaves : LeavesPorts edit) (accepted : s.Accepts k p)
    (holds : s.flags.i0 = some p) (settled : s.plan.swapPending = none) (edited : edit s = (u, reply st fields)) :
    s.request k p tag (fun t => t.planEdit p (refusal t) edit) = u.answer p k tag st fields := by
  have ports : u.ports = s.ports := by simpa [edited] using leaves.ports s
  have place : u.hasPlace p = true := by
    obtain ⟨-, place, -⟩ := accepted
    rwa [State.hasPlace, ports]
  refine State.request_reply accepted ?_ place
  rw [State.planEdit_of_holder _ _ (by simpa using holds) (by simpa using settled), leaves.assembly, edited]

theorem leavesPorts_takePlanClear : LeavesPorts State.takePlanClear := ⟨fun _ => rfl, fun _ _ => rfl⟩

theorem leavesPorts_takePlanCopy : LeavesPorts State.takePlanCopy := ⟨fun _ => rfl, fun _ _ => rfl⟩

theorem leavesPorts_takePhaseAppend (r : RawPhase) : LeavesPorts (fun s => s.takePhaseAppend r) where
  ports s := by
    unfold State.takePhaseAppend
    split
    · rfl
    · split <;> rfl
  assembly s p := by
    simp only [State.takePhaseAppend, State.rxToHunt_keeps]
    split
    · rfl
    · split <;> rfl

theorem leavesPorts_takePhaseReplace (index : Nat) (r : RawPhase) :
    LeavesPorts (fun s => s.takePhaseReplace index r) where
  ports s := by
    unfold State.takePhaseReplace
    split
    · rfl
    · split <;> rfl
  assembly s p := by
    simp only [State.takePhaseReplace, State.rxToHunt_keeps]
    split
    · rfl
    · split <;> rfl

theorem leavesPorts_takeLadderPut (count : Nat) (slots : List RawSegment) :
    LeavesPorts (fun s => s.takeLadderPut count slots) where
  ports s := by
    unfold State.takeLadderPut
    split <;> rfl
  assembly s p := by
    unfold State.takeLadderPut
    split <;> rfl

/-! ### The five commands from the holder -/

section

variable {s u : State} {p : Port} {tag : Byte} {st : Status} {fields : List Byte}

theorem exec_planClear_of_holder (accepted : s.Accepts .planClear p) (holds : s.flags.i0 = some p)
    (settled : s.plan.swapPending = none) :
    exec (.planClear p tag) s = .next ((s.setShadow ⟨[], []⟩).answer p .planClear tag .ok []) :=
  congrArg Host.Outcome.next
    (State.request_planEdit (fun _ => []) leavesPorts_takePlanClear accepted holds settled rfl)

theorem exec_planCopy_of_holder (accepted : s.Accepts .planCopy p) (holds : s.flags.i0 = some p)
    (settled : s.plan.swapPending = none) :
    exec (.planCopy p tag) s = .next ((s.setShadow s.plan.activeBank).answer p .planCopy tag .ok []) :=
  congrArg Host.Outcome.next
    (State.request_planEdit (fun _ => []) leavesPorts_takePlanCopy accepted holds settled rfl)

theorem exec_phaseAppend_of_holder {r : RawPhase} (accepted : s.Accepts .phaseAppend p) (holds : s.flags.i0 = some p)
    (settled : s.plan.swapPending = none) (put : s.takePhaseAppend r = (u, reply st fields)) :
    exec (.phaseAppend p tag r) s = .next (u.answer p .phaseAppend tag st fields) :=
  congrArg Host.Outcome.next
    (State.request_planEdit State.shadowCount (leavesPorts_takePhaseAppend r) accepted holds settled put)

theorem exec_phaseReplace_of_holder {index : Byte} {r : RawPhase} (accepted : s.Accepts .phaseReplace p)
    (holds : s.flags.i0 = some p) (settled : s.plan.swapPending = none)
    (put : s.takePhaseReplace index.toNat r = (u, reply st fields)) :
    exec (.phaseReplace p tag index r) s = .next (u.answer p .phaseReplace tag st fields) :=
  congrArg Host.Outcome.next
    (State.request_planEdit (fun _ => []) (leavesPorts_takePhaseReplace index.toNat r) accepted holds settled put)

theorem exec_ladderPut_of_holder {count : Byte} {slots : List RawSegment} (accepted : s.Accepts .ladderPut p)
    (holds : s.flags.i0 = some p) (settled : s.plan.swapPending = none)
    (put : s.takeLadderPut count.toNat slots = (u, reply st fields)) :
    exec (.ladderPut p tag count slots) s = .next (u.answer p .ladderPut tag st fields) :=
  congrArg Host.Outcome.next
    (State.request_planEdit (fun _ => []) (leavesPorts_takeLadderPut count.toNat slots) accepted holds settled put)

end

/-! ### Clearing and copying -/

/-- A plan that commits names an entry in its phase list. -/
theorem entry_lt_of_commitFault_eq_none {b : Bank} {entry : Nat} (h : commitFault b entry = none) :
    entry < b.phases.length := by
  by_contra hge
  rw [commitFault, if_pos (Nat.not_lt.1 hge)] at h
  split at h <;> contradiction

/-- Commit validation judges the entry by the phase count alone. -/
theorem commitFault_entry_irrel {b : Bank} {i j : Nat} (hi : i < b.phases.length) (hj : j < b.phases.length) :
    commitFault b i = commitFault b j := by
  simp only [commitFault, if_neg (Nat.not_le.2 hi), if_neg (Nat.not_le.2 hj)]

/-- The active bank of a valid plan commits from every entry below its phase count. -/
theorem State.PlanValid.commitFault_eq_none {s : State} (valid : s.PlanValid) {entry : Nat}
    (h : entry < s.plan.activeBank.phases.length) : commitFault s.plan.activeBank entry = none := by
  obtain ⟨active, -⟩ := valid
  rw [commitFault_entry_irrel h (entry_lt_of_commitFault_eq_none active), active]

/-! ### Phase records -/

theorem State.takePhaseAppend_of_full {s : State} (r : RawPhase) (h : 16 ≤ s.plan.shadowBank.phases.length) :
    s.takePhaseAppend r = (s, reply .full s.shadowCount) := by
  rw [State.takePhaseAppend, if_pos h]

theorem State.takePhaseAppend_of_fault {s : State} {r : RawPhase} {reason : Reason}
    (h : s.plan.shadowBank.phases.length < 16) (hr : putPhase r = .inl reason) :
    s.takePhaseAppend r = (s, invalid reason s.shadowCount) := by
  simp only [State.takePhaseAppend, if_neg (Nat.not_le.2 h), hr]

theorem State.takePhaseAppend_of_stored {s : State} {r : RawPhase} {ph : Phase} {clamped : Bool}
    (h : s.plan.shadowBank.phases.length < 16) (hr : putPhase r = .inr (ph, clamped)) :
    s.takePhaseAppend r = (s.setShadow ⟨s.plan.shadowBank.phases ++ [ph], s.plan.shadowBank.ladder⟩,
      reply (putStatus clamped) (f1 (s.plan.shadowBank.phases.length + 1))) := by
  simp [State.takePhaseAppend, Nat.not_le.2 h, hr, State.shadowCount, State.setShadow]

theorem State.takePhaseReplace_of_badIndex {s : State} {index : Nat} (r : RawPhase)
    (h : s.plan.shadowBank.phases.length ≤ index) : s.takePhaseReplace index r = (s, bare .badIndex) := by
  rw [State.takePhaseReplace, if_pos h]

theorem State.takePhaseReplace_of_fault {s : State} {index : Nat} {r : RawPhase} {reason : Reason}
    (h : index < s.plan.shadowBank.phases.length) (hr : putPhase r = .inl reason) :
    s.takePhaseReplace index r = (s, invalid reason []) := by
  simp only [State.takePhaseReplace, if_neg (Nat.not_le.2 h), hr]

theorem State.takePhaseReplace_of_stored {s : State} {index : Nat} {r : RawPhase} {ph : Phase} {clamped : Bool}
    (h : index < s.plan.shadowBank.phases.length) (hr : putPhase r = .inr (ph, clamped)) :
    s.takePhaseReplace index r = (s.setShadow ⟨s.plan.shadowBank.phases.set index ph, s.plan.shadowBank.ladder⟩,
      reply (putStatus clamped) (f1 s.plan.shadowBank.phases.length)) := by
  simp [State.takePhaseReplace, Nat.not_le.2 h, hr, State.shadowCount, State.setShadow]

/-! ### The ladder -/

theorem controlOfByte_eq_none_iff (b : Byte) : controlOfByte b = none ↔ 2 < b.toNat := by
  unfold controlOfByte
  split_ifs <;> simp <;> bv_omega

theorem code_of_controlOfByte {b : Byte} {c : Control} (h : controlOfByte b = some c) : c.code = b.toNat := by
  unfold controlOfByte at h
  split_ifs at h with h0 h1 h2 <;> cases h
  · simp [h0, Control.code]
  · simp [h1, Control.code]
  · simp [h2, Control.code]

/-- A value is clamped exactly when it lies outside the range. -/
theorem fitNat_snd_eq_false_iff {lo hi : Nat} (v : Nat) (h : lo ≤ hi) :
    (fitNat lo hi v).2 = false ↔ lo ≤ v ∧ v ≤ hi := by
  simp only [fitNat, clampNat_eq v h, bne_eq_false_iff_eq]
  omega

/-- How the first of the used slots is stored, and with it the rest. -/
theorem putSlots_cons_eq_some_iff {g : RawSegment} {rest : List RawSegment} {segments : List Segment} {clamped : Bool} :
    putSlots (g :: rest) = some (segments, clamped) ↔
      ∃ (c : Control) (later : List Segment) (laterClamped : Bool),
        controlOfByte g.control = some c ∧ putSlots rest = some (later, laterClamped)
          ∧ segments = ⟨c, (fitNat 1 1920 g.span.toNat).1⟩ :: later
          ∧ clamped = ((fitNat 1 1920 g.span.toNat).2 || laterClamped) := by
  cases hc : controlOfByte g.control with
  | none => simp [putSlots, hc]
  | some c =>
    cases hr : putSlots rest with
    | none => simp [putSlots, hc, hr]
    | some later =>
      obtain ⟨later, laterClamped⟩ := later
      simp only [putSlots, hc, hr, Option.some.injEq, Prod.mk.injEq]
      grind

/-- An unknown control among the used slots is what makes them unstorable. -/
theorem putSlots_eq_none_iff (slots : List RawSegment) : putSlots slots = none ↔ ∃ g ∈ slots, 2 < g.control.toNat := by
  induction slots with
  | nil => simp [putSlots]
  | cons g rest ih =>
    rw [List.exists_mem_cons_iff, ← ih, ← controlOfByte_eq_none_iff]
    cases hc : controlOfByte g.control with
    | none => simp [putSlots, hc]
    | some c => cases hr : putSlots rest <;> simp [putSlots, hc, hr]

/-- A slot as LADDER_PUT stores it: the control named by its code, the span brought into 1..1920 (spec/01 R13). -/
def StoresSlot (g : RawSegment) (x : Segment) : Prop :=
  x.control.code = g.control.toNat ∧ x.span = max 1 (min g.span.toNat 1920)

/-- The used slots are stored one by one, in slot order. -/
theorem putSlots_stores {slots : List RawSegment} {segments : List Segment} {clamped : Bool}
    (h : putSlots slots = some (segments, clamped)) : List.Forall₂ StoresSlot slots segments := by
  induction slots generalizing segments clamped with
  | nil =>
    cases h
    exact .nil
  | cons g rest ih =>
    obtain ⟨c, later, laterClamped, hc, hr, rfl, -⟩ := putSlots_cons_eq_some_iff.1 h
    exact .cons ⟨code_of_controlOfByte hc, clampNat_eq _ (by decide)⟩ (ih hr)

/-- No span is clamped exactly when every one lies in 1..1920. -/
theorem putSlots_unclamped_iff {slots : List RawSegment} {segments : List Segment} {clamped : Bool}
    (h : putSlots slots = some (segments, clamped)) :
    clamped = false ↔ ∀ g ∈ slots, 1 ≤ g.span.toNat ∧ g.span.toNat ≤ 1920 := by
  induction slots generalizing segments clamped with
  | nil =>
    cases h
    simp
  | cons g rest ih =>
    obtain ⟨c, later, laterClamped, -, hr, -, rfl⟩ := putSlots_cons_eq_some_iff.1 h
    rw [Bool.or_eq_false_iff, fitNat_snd_eq_false_iff _ (by decide), ih hr, List.forall_mem_cons]

theorem putLadder_of_badCount {count : Nat} (slots : List RawSegment) (h : count = 0 ∨ 8 < count) :
    putLadder count slots = .inl .badSegmentCount := by
  rw [putLadder, if_pos h]

theorem putLadder_of_badControl {count : Nat} {slots : List RawSegment} (h₁ : 1 ≤ count) (h₈ : count ≤ 8)
    (h : putSlots (slots.take count) = none) : putLadder count slots = .inl .badControl := by
  have counted : ¬(count = 0 ∨ 8 < count) := by omega
  simp only [putLadder, if_neg counted, h]

theorem putLadder_of_stored {count : Nat} {slots : List RawSegment} {stored : List Segment × Bool} (h₁ : 1 ≤ count)
    (h₈ : count ≤ 8) (h : putSlots (slots.take count) = some stored) : putLadder count slots = .inr stored := by
  have counted : ¬(count = 0 ∨ 8 < count) := by omega
  simp only [putLadder, if_neg counted, h]

theorem State.takeLadderPut_of_fault {s : State} {count : Nat} {slots : List RawSegment} {reason : Reason}
    (h : putLadder count slots = .inl reason) : s.takeLadderPut count slots = (s, invalid reason []) := by
  simp only [State.takeLadderPut, h]

theorem State.takeLadderPut_of_stored {s : State} {count : Nat} {slots : List RawSegment} {segments : List Segment}
    {clamped : Bool} (h : putLadder count slots = .inr (segments, clamped)) :
    s.takeLadderPut count slots = (s.setShadow ⟨s.plan.shadowBank.phases, segments⟩, bare (putStatus clamped)) := by
  simp only [State.takeLadderPut, h]

theorem putStatus_eq_ok_iff (clamped : Bool) : putStatus clamped = .ok ↔ clamped = false := by
  cases clamped <;> simp [putStatus]

theorem putStatus_cases (clamped : Bool) : putStatus clamped = .ok ∨ putStatus clamped = .clamped := by
  cases clamped <;> simp [putStatus]

end Sys2Proof.Machine

namespace Sys2Proof.Proofs

open Sys2Proof.Machine

/-- Settles O25: both edits are a replacement of the shadow bank; the copy commits as the valid active bank does. -/
theorem planClearAndCopyFillTheShadow : Obligations.PlanClearAndCopyFillTheShadow := by
  intro s p tag accepted holds settled
  have frame (b : Bank) : s.setShadow b = { s with plan := { s.plan with
      bankA := (s.setShadow b).plan.bankA, bankB := (s.setShadow b).plan.bankB } } :=
    congrArg (fun pl => ({ s with plan := pl } : State)) (Plan.setShadow_eq_with_banks s.plan b)
  have shadow (b : Bank) : (s.setShadow b).plan.shadowBank = b := Plan.shadowBank_setShadow s.plan b
  have active (b : Bank) : (s.setShadow b).plan.activeBank = s.plan.activeBank := Plan.activeBank_setShadow s.plan b
  constructor
  · exact ⟨_, exec_planClear_of_holder accepted holds settled, shadow _, active _, frame _⟩
  · refine ⟨_, exec_planCopy_of_holder accepted holds settled, shadow _, active _, frame _, fun valid entry below => ?_⟩
    rw [shadow] at below ⊢
    exact valid.commitFault_eq_none below

/-- Settles O27: each case is one equation of the two puts, answered as the holder's edit. -/
theorem phasePutsStore : Obligations.PhasePutsStore := by
  intro s p tag index r accepted holds settled
  refine ⟨fun full => ?_, fun room reason fault => ?_, fun room ph clamped stored => ?_, fun beyond => ?_,
    fun inside reason fault => ?_, fun inside ph clamped stored => ?_⟩
  · exact exec_phaseAppend_of_holder accepted holds settled (State.takePhaseAppend_of_full r full)
  · exact exec_phaseAppend_of_holder accepted holds settled (State.takePhaseAppend_of_fault room fault)
  · exact exec_phaseAppend_of_holder accepted holds settled (State.takePhaseAppend_of_stored room stored)
  · exact exec_phaseReplace_of_holder accepted holds settled (State.takePhaseReplace_of_badIndex r beyond)
  · exact exec_phaseReplace_of_holder accepted holds settled (State.takePhaseReplace_of_fault inside fault)
  · exact exec_phaseReplace_of_holder accepted holds settled (State.takePhaseReplace_of_stored inside stored)

/-- Settles O29: the two structural faults of the ladder, and otherwise the used slots as `putSlots` stores them. -/
theorem ladderPutStores : Obligations.LadderPutStores := by
  intro s p tag count slots eight accepted holds settled
  have refused (reason : Reason) (fault : putLadder count.toNat slots = .inl reason) :
      exec (.ladderPut p tag count slots) s = .next (s.answer p .ladderPut tag .invalid [reason.code]) :=
    exec_ladderPut_of_holder accepted holds settled (State.takeLadderPut_of_fault fault)
  refine ⟨fun bad => refused .badSegmentCount (putLadder_of_badCount slots bad),
    fun h₁ h₈ unknown => refused .badControl (putLadder_of_badControl h₁ h₈ ((putSlots_eq_none_iff _).2 unknown)),
    fun h₁ h₈ known => ?_⟩
  cases stored : putSlots (slots.take count.toNat) with
  | none =>
    obtain ⟨g, hg, unknown⟩ := (putSlots_eq_none_iff _).1 stored
    exact absurd (known g hg) (Nat.not_le.2 unknown)
  | some result =>
    obtain ⟨segments, clamped⟩ := result
    have slotwise := putSlots_stores stored
    have length : segments.length = count.toNat := by
      rw [← slotwise.length_eq, List.length_take, eight, Nat.min_eq_left h₈]
    refine ⟨segments, putStatus clamped, exec_ladderPut_of_holder accepted holds settled
      (State.takeLadderPut_of_stored (putLadder_of_stored h₁ h₈ stored)), length, fun n g hg => ?_,
      (putStatus_eq_ok_iff clamped).trans (putSlots_unclamped_iff stored), putStatus_cases clamped⟩
    obtain ⟨hn, rfl⟩ := List.getElem?_eq_some_iff.1 hg
    have hn' : n < segments.length := slotwise.length_eq ▸ hn
    obtain ⟨control, span⟩ := slotwise.get hn hn'
    refine ⟨segments[n].control, control, ?_⟩
    rw [List.getElem?_eq_getElem hn']
    exact congrArg (fun v => some (Segment.mk segments[n].control v)) span

end Sys2Proof.Proofs

/-! ## The base-2 logarithm L64 (spec/02 R29) -/

namespace Sys2Proof.Machine

theorem logIndex_of_six_le {x : Nat} (h : 6 ≤ x.log2) : logIndex x = x / 2 ^ (x.log2 - 6) - 64 := if_pos h

theorem logIndex_of_lt_six {x : Nat} (h : x.log2 < 6) : logIndex x = x * 2 ^ (6 - x.log2) - 64 :=
  if_neg (Nat.not_le.2 h)

/-- x brought to the octave from 64 is below 128, so its index is one of the 64 of the table. -/
theorem logIndex_lt (x : Nat) : logIndex x < 64 := by
  have below : x < 2 ^ (x.log2 + 1) := Nat.lt_log2_self
  rcases Nat.lt_or_ge x.log2 6 with low | high
  · have octave : 2 ^ (x.log2 + 1) * 2 ^ (6 - x.log2) = 128 := by
      rw [← Nat.pow_add, show x.log2 + 1 + (6 - x.log2) = 7 by omega]
    have scaled : x * 2 ^ (6 - x.log2) < 128 := octave ▸ Nat.mul_lt_mul_of_pos_right below (Nat.two_pow_pos _)
    rw [logIndex_of_lt_six low]; omega
  · have octave : 2 ^ (x.log2 + 1) = 2 ^ (x.log2 - 6) * 128 := by
      rw [show x.log2 + 1 = x.log2 - 6 + 7 by omega, Nat.pow_add]
    have scaled : x / 2 ^ (x.log2 - 6) < 128 := Nat.div_lt_of_lt_mul (octave ▸ below)
    rw [logIndex_of_six_le high]; omega

/-- T(j) is 64·log2(1 + j/64) to the nearest integer: 2T - 1 < 128·log2((64 + j)/64) < 2T + 1, as powers of 2. -/
theorem logTable_nearest : ∀ j < 64, 64 ^ 128 * 2 ^ (2 * logTable.getD j 0) < 2 * (64 + j) ^ 128
    ∧ (64 + j) ^ 128 < 64 ^ 128 * 2 ^ (2 * logTable.getD j 0 + 1) := by decide

theorem logTable_le : ∀ j < 64, logTable.getD j 0 ≤ 63 := by decide

theorem log64_le_of_log2_le {x n : Nat} (h : x.log2 ≤ n) : log64 x ≤ 64 * n + 63 :=
  Nat.add_le_add (Nat.mul_le_mul_left 64 h) (logTable_le _ (logIndex_lt x))

/-- A pulse count has at most 20 bits. -/
theorem log64_le_of_count {x : Nat} (pos : 1 ≤ x) (count : x ≤ 1048575) : log64 x ≤ 1279 := by
  have bits : x.log2 < 20 := (Nat.log2_lt (Nat.ne_of_gt pos)).2 (Nat.lt_succ_of_le count)
  exact log64_le_of_log2_le (Nat.le_of_lt_succ bits)

end Sys2Proof.Machine

namespace Sys2Proof.Proofs

open Sys2Proof.Machine

/-- Settles O47: the witnesses are the highest set bit, `logIndex x` and its table entry; the table is checked entry by
entry. -/
theorem logarithmFollowsItsTable : Obligations.LogarithmFollowsItsTable := by
  refine ⟨fun x pos => ?_, fun _ => log64_le_of_count, by decide, by decide⟩
  obtain ⟨above, below⟩ := logTable_nearest _ (logIndex_lt x)
  exact ⟨x.log2, logIndex x, logTable.getD (logIndex x) 0, Nat.log2_self_le (Nat.ne_of_gt pos), Nat.lt_log2_self,
    logIndex_lt x, logIndex_of_six_le, logIndex_of_lt_six, rfl, above, below⟩

end Sys2Proof.Proofs

/-! ## Reading a window of shared words (spec/10 R171) -/

namespace Sys2Proof.Machine

/-- A byte sent as a numeric field is the byte itself. -/
theorem f1_toNat (b : Byte) : f1 b.toNat = [b] := by
  simp [f1, leBytes]

theorem State.takeBulletinRead_of_port (s : State) (q : Port) :
    s.takeBulletinRead (portCode q) = (s, reply .ok (f1 (portCode q) ++ windowBytes (s.windows.get q))) := by
  simp only [State.takeBulletinRead, portOfNat_code]

theorem State.takeBulletinRead_of_badIndex (s : State) {window : Nat} (h : 5 < window) :
    s.takeBulletinRead window = (s, bare .badIndex) := by
  simp only [State.takeBulletinRead, portOfNat_none h]

/-- Every port may send BULLETIN_READ, so a running part with a place for the reply takes it. -/
theorem State.accepts_bulletinRead {s : State} {p : Port} (runs : s.runs = true) (place : s.hasPlace p = true) :
    s.Accepts .bulletinRead p := ⟨runs, place, rfl⟩

/-- BULLETIN_READ answers with what the read of the window gives, and the state is otherwise as it was. -/
theorem exec_bulletinRead_of_take {s : State} {p : Port} {tag window : Byte} {st : Status} {fields : List Byte}
    (runs : s.runs = true) (place : s.hasPlace p = true)
    (taken : (s.rxToHunt p).takeBulletinRead window.toNat = (s.rxToHunt p, reply st fields)) :
    exec (.bulletinRead p tag window) s = .next (s.answer p .bulletinRead tag st fields) :=
  congrArg Host.Outcome.next (State.request_reply (State.accepts_bulletinRead runs place) taken place)

end Sys2Proof.Machine

namespace Sys2Proof.Proofs

open Sys2Proof.Machine

/-- Settles O24: an index names a port or is above 5; the read looks only at the windows, which taking the request leaves
alone. -/
theorem bulletinReadReturnsTheWindow : Obligations.BulletinReadReturnsTheWindow := by
  intro s p tag window runs place
  constructor
  · intro q index
    have windows : (s.rxToHunt p).windows = s.windows := by simp
    apply exec_bulletinRead_of_take runs place
    rw [index, State.takeBulletinRead_of_port, ← index, f1_toNat, windows]
    simp only [windowBytes, List.append_assoc]
  · intro beyond
    exact exec_bulletinRead_of_take runs place (State.takeBulletinRead_of_badIndex _ beyond)

end Sys2Proof.Proofs

/-! ## What every command keeps: the relations of Safety.lean, and the commands that wait -/

namespace Sys2Proof.Machine

/-! ### Each relation looks at a few fields -/

section

variable {s t : State}

theorem State.QueuesBounded.congr (ports : t.ports = s.ports) (h : s.QueuesBounded) : t.QueuesBounded := by
  simpa only [State.QueuesBounded, ports] using h

theorem State.ErrorsBounded.congr (ports : t.ports = s.ports) (h : s.ErrorsBounded) : t.ErrorsBounded := by
  simpa only [State.ErrorsBounded, ports] using h

theorem State.TimersPlaced.congr (heads : t.heads = s.heads) (h : s.TimersPlaced) : t.TimersPlaced := by
  simpa only [State.TimersPlaced, heads] using h

theorem State.TriggersFollowRails.congr (heads : t.heads = s.heads) (triggers : t.triggers = s.triggers)
    (h : s.TriggersFollowRails) : t.TriggersFollowRails := by
  simpa only [State.TriggersFollowRails, State.rail, heads, triggers] using h

theorem State.AwakeOnlyInFrame.congr (heads : t.heads = s.heads) (frame : t.frame = s.frame)
    (h : s.AwakeOnlyInFrame) : t.AwakeOnlyInFrame := by
  simpa only [State.AwakeOnlyInFrame, State.member, heads, frame] using h

theorem State.EffectiveIsWorse.congr (energy : t.energy = s.energy) (h : s.EffectiveIsWorse) : t.EffectiveIsWorse := by
  simpa only [State.EffectiveIsWorse, energy] using h

theorem State.CorrectionsBounded.congr (settings : t.settings = s.settings) (ramps : t.ramps = s.ramps)
    (h : s.CorrectionsBounded) : t.CorrectionsBounded := by
  simpa only [State.CorrectionsBounded, settings, ramps] using h

theorem State.JournalKept.congr (journal : t.journal = s.journal) (frame : t.frame = s.frame) (h : s.JournalKept) :
    t.JournalKept := by
  simpa only [State.JournalKept, State.nextClosed, journal, frame] using h

theorem State.PlanValid.congr (plan : t.plan = s.plan) (h : s.PlanValid) : t.PlanValid := by
  simpa only [State.PlanValid, plan] using h

theorem State.SwapWaitsForFrame.congr (plan : t.plan = s.plan) (frame : t.frame = s.frame) (h : s.SwapWaitsForFrame) :
    t.SwapWaitsForFrame := by
  simpa only [State.SwapWaitsForFrame, plan, frame] using h

theorem State.DueTogether.congr (sched : t.sched = s.sched) (frame : t.frame = s.frame) (h : s.DueTogether) :
    t.DueTogether := by
  simpa only [State.DueTogether, sched, frame] using h

end

/-- `t` has every relation of Safety.lean that `s` has, each for itself, and the same commands wait. A relation whose
fields the operation leaves alone is found by the field laws. -/
structure State.Preserves (s t : State) : Prop where
  queues : s.QueuesBounded → t.QueuesBounded := by exact State.QueuesBounded.congr (by simp)
  errors : s.ErrorsBounded → t.ErrorsBounded := by exact State.ErrorsBounded.congr (by simp)
  timers : s.TimersPlaced → t.TimersPlaced := by exact State.TimersPlaced.congr (by simp)
  triggers : s.TriggersFollowRails → t.TriggersFollowRails := by
    exact State.TriggersFollowRails.congr (by simp) (by simp)
  awake : s.AwakeOnlyInFrame → t.AwakeOnlyInFrame := by exact State.AwakeOnlyInFrame.congr (by simp) (by simp)
  tier : s.EffectiveIsWorse → t.EffectiveIsWorse := by exact State.EffectiveIsWorse.congr (by simp)
  corrections : s.CorrectionsBounded → t.CorrectionsBounded := by
    exact State.CorrectionsBounded.congr (by simp) (by simp)
  journal : s.JournalKept → t.JournalKept := by exact State.JournalKept.congr (by simp) (by simp)
  plan : s.PlanValid → t.PlanValid := by exact State.PlanValid.congr (by simp)
  swap : s.SwapWaitsForFrame → t.SwapWaitsForFrame := by exact State.SwapWaitsForFrame.congr (by simp) (by simp)
  due : s.DueTogether → t.DueTogether := by exact State.DueTogether.congr (by simp) (by simp)
  pending : t.pending = s.pending := by simp

section

variable {s t u : State}

theorem State.Preserves.refl (s : State) : s.Preserves s := {}

theorem State.Preserves.trans (a : s.Preserves t) (b : t.Preserves u) : s.Preserves u where
  queues := b.queues ∘ a.queues
  errors := b.errors ∘ a.errors
  timers := b.timers ∘ a.timers
  triggers := b.triggers ∘ a.triggers
  awake := b.awake ∘ a.awake
  tier := b.tier ∘ a.tier
  corrections := b.corrections ∘ a.corrections
  journal := b.journal ∘ a.journal
  plan := b.plan ∘ a.plan
  swap := b.swap ∘ a.swap
  due := b.due ∘ a.due
  pending := b.pending.trans a.pending

theorem State.Preserves.ite {c : Prop} [Decidable c] (a : c → s.Preserves t) (b : ¬c → s.Preserves u) :
    s.Preserves (if c then t else u) := by
  split
  · exact a ‹_›
  · exact b ‹_›

theorem State.Preserves.forHeads {f : Head → State → State} (step : ∀ (h : Head) (s : State), s.Preserves (f h s))
    (s : State) : s.Preserves (Machine.forHeads f s) :=
  (((step .h0 _).trans (step .h1 _)).trans (step .h2 _)).trans (step .h3 _)

end

/-! ### Ports -/

/-- A port whose queue and counts stay within their bounds. -/
structure PortState.Preserves (x y : PortState) : Prop where
  queue : x.queue.length ≤ Config.queueCapacity → y.queue.length ≤ Config.queueCapacity
  errors : x.errors.Bounded → y.errors.Bounded

theorem State.modPort_preserves {s : State} {p : Port} {g : PortState → PortState}
    (h : (s.ports.get p).Preserves (g (s.ports.get p))) : s.Preserves (s.modPort p g) where
  queues bounded q := by
    rw [State.modPort_ports, Six.get_set]
    split
    · exact h.queue (bounded p)
    · exact bounded q
  errors bounded q := by
    rw [State.modPort_ports, Six.get_set]
    split
    · exact h.errors (bounded p)
    · exact bounded q

theorem State.modStation_preserves (s : State) (st : Station) (g : StationState → StationState) :
    s.Preserves (s.modStation st g) := {}

theorem State.raiseAt_preserves (s : State) (st : Station) (e : Event) : s.Preserves (s.raiseAt st e) := {}

theorem State.raiseBoth_preserves (s : State) (e : Event) : s.Preserves (s.raiseBoth e) := {}

theorem ErrorCounts.bounded_zero : (⟨0, 0, 0, 0, 0⟩ : ErrorCounts).Bounded := by
  simp [ErrorCounts.Bounded]

theorem ErrorCounts.Bounded.bump {e : ErrorCounts} (h : e.Bounded) (k : LineError) : (e.bump k).Bounded := by
  obtain ⟨h1, h2, h3, h4, h5⟩ := h
  cases k <;> simp only [ErrorCounts.bump, ErrorCounts.Bounded, saturate, Config.maxErrors] <;> omega

theorem State.rxToHunt_preserves (s : State) (p : Port) : s.Preserves (s.rxToHunt p) :=
  State.modPort_preserves ⟨id, id⟩

theorem State.enqueue_preserves (s : State) (p : Port) (m : Message) : s.Preserves (s.enqueue p m) := by
  unfold State.enqueue
  refine .ite (fun place => State.modPort_preserves ⟨fun _ => ?_, id⟩) (fun _ => .refl s)
  simpa [State.hasPlace] using place

theorem State.clearEvents_preserves (s : State) (p : Port) : s.Preserves (s.clearEvents p) := {}

theorem State.resetPort_preserves (s : State) (p : Port) : s.Preserves (s.resetPort p) := by
  have cleared : s.Preserves ((s.modPort p resetPortState).clearEvents p) :=
    (State.modPort_preserves ⟨fun _ => Nat.zero_le _, fun _ => ErrorCounts.bounded_zero⟩).trans
      (State.clearEvents_preserves _ p)
  exact cleared.trans { queues := .congr rfl, errors := .congr rfl }

theorem State.judgeThreshold_preserves (s : State) (p : Port) : s.Preserves (s.judgeThreshold p) :=
  .ite (fun _ => (State.modPort_preserves ⟨id, id⟩).trans (State.raiseBoth_preserves _ _)) (fun _ => .refl s)

theorem State.countError_preserves (s : State) (p : Port) (k : LineError) : s.Preserves (s.countError p k) :=
  .ite (fun _ => .refl s)
    (fun _ => (State.modPort_preserves ⟨id, fun h => h.bump k⟩).trans (State.judgeThreshold_preserves _ p))

/-! ### Energy -/

/-- Everything of the energy block may change as long as the effective tier follows. -/
theorem State.setEnergy_preserves (s : State) {e : Energy}
    (h : s.EffectiveIsWorse → e.effective = worse e.voltageTier e.floor.tier) :
    s.Preserves { s with energy := e } where
  tier := h

theorem State.modOnTime_preserves (s : State) (h : Head) (g : OnTime → OnTime) : s.Preserves (s.modOnTime h g) :=
  State.setEnergy_preserves s id

theorem State.addCharge_preserves (s : State) (h : Head) : s.Preserves (s.addCharge h) :=
  State.setEnergy_preserves s id

/-- Whatever the energy block was, the judged tier is the worse of the two. -/
theorem State.judgeTier_effectiveIsWorse (s : State) : s.judgeTier.EffectiveIsWorse := by
  simp only [State.EffectiveIsWorse, State.judgeTier_energy]

theorem State.judgeEnergy_preserves (s : State) (e : Energy) :
    s.Preserves (State.judgeTier { s with energy := e }) where
  tier _ := State.judgeTier_effectiveIsWorse _

theorem State.judgeFloor_judgeTier_preserves (s : State) : s.Preserves s.judgeFloor.judgeTier :=
  State.judgeEnergy_preserves s _

theorem State.account_preserves (s : State) (h : Head) : s.Preserves (s.account h) :=
  (State.addCharge_preserves s h).trans (State.judgeFloor_judgeTier_preserves _)

theorem State.measure_preserves (s : State) : s.Preserves s.measure where
  tier _ := State.judgeTier_effectiveIsWorse _

theorem State.stopOnTime_preserves (s : State) (h : Head) : s.Preserves (s.stopOnTime h) :=
  .ite (fun _ => (State.modOnTime_preserves s h _).trans (State.account_preserves _ h)) (fun _ => .refl s)

end Sys2Proof.Machine

namespace Sys2Proof.Machine

/-! ### Heads and triggers -/

theorem HeadSeq.TimersPlaced.of_stopped {x : HeadSeq} (hello : x.hello = none) (ready : x.ready = none)
    (result : x.result = none) (grace : x.grace = none) (standby : x.standby = none) : x.TimersPlaced := by
  simp [HeadSeq.TimersPlaced, hello, ready, result, grace, standby]

theorem HeadSeq.enter_timersPlaced (x : HeadSeq) (st : HeadState) : (x.enter st).TimersPlaced :=
  .of_stopped rfl rfl rfl rfl rfl

/-- A head that is neither OFF nor in STANDBY. -/
def HeadState.Awake (st : HeadState) : Prop := st ≠ .off ∧ st ≠ .standby

theorem State.AwakeOnlyInFrame.member_isSome {s : State} (h : s.AwakeOnlyInFrame) {k : Head}
    (awake : (s.heads.get k).state.Awake) : (s.member k).isSome = true :=
  h k awake.1 awake.2

/-- A change of one head: its timers stay in their states, OFF is entered with a quiet trigger, and it is awake only as a
member. -/
theorem State.modHead_preserves {s : State} {h : Head} {g : HeadSeq → HeadSeq}
    (timers : (s.heads.get h).TimersPlaced → (g (s.heads.get h)).TimersPlaced)
    (quiet : (g (s.heads.get h)).state = .off → (s.heads.get h).state = .off ∨ (s.triggers.get h).Quiet)
    (member : (g (s.heads.get h)).state.Awake → (s.heads.get h).state.Awake ∨ (s.member h).isSome = true) :
    s.Preserves (s.modHead h g) where
  timers placed k := by
    rw [State.modHead_heads, Four.get_set]
    split
    · exact timers (placed h)
    · exact placed k
  triggers follow k off := by
    by_cases e : k = h
    · subst e
      have off' : (g (s.heads.get k)).state = .off := by simpa [State.rail] using off
      rcases quiet off' with was | now
      · exact follow k (by simpa [State.rail] using was)
      · exact now
    · exact follow k (by simpa [State.rail, e] using off)
  awake kept k off standby := by
    rw [State.modHead_member]
    by_cases e : k = h
    · subst e
      rw [State.modHead_heads, Four.get_set_self] at off standby
      exact (member ⟨off, standby⟩).elim kept.member_isSome id
    · rw [State.modHead_heads, Four.get_set_ne _ _ e] at off standby
      exact kept k off standby

/-- A change of a head that is not its state nor a timer. -/
theorem State.modHead_preserves_of_state {s : State} {h : Head} {g : HeadSeq → HeadSeq}
    (timers : (s.heads.get h).TimersPlaced → (g (s.heads.get h)).TimersPlaced)
    (state : (g (s.heads.get h)).state = (s.heads.get h).state) : s.Preserves (s.modHead h g) :=
  State.modHead_preserves timers (fun off => .inl (state ▸ off)) (fun awake => .inl (state ▸ awake))

/-- A member enters a state in which its rail stays on. -/
theorem State.modHead_preserves_of_member {s : State} {h : Head} {g : HeadSeq → HeadSeq}
    (timers : (g (s.heads.get h)).TimersPlaced) (on : (g (s.heads.get h)).state ≠ .off)
    (member : (s.member h).isSome = true) : s.Preserves (s.modHead h g) :=
  State.modHead_preserves (fun _ => timers) (fun off => absurd off on) (fun _ => .inr member)

theorem State.modTrigger_preserves {s : State} {h : Head} {g : Trigger → Trigger}
    (quiet : s.rail h = false → (s.triggers.get h).Quiet → (g (s.triggers.get h)).Quiet) :
    s.Preserves (s.modTrigger h g) where
  triggers follow k off := by
    rw [State.modTrigger_triggers, Four.get_set]
    split
    next e => subst e; exact quiet off (follow k off)
    next => exact follow k off

theorem State.release_preserves (s : State) (h : Head) : s.Preserves (s.release h) :=
  State.modTrigger_preserves (fun _ ⟨_, bulb, _⟩ => ⟨rfl, bulb, rfl⟩)

theorem State.stopBulb_preserves (s : State) (h : Head) : s.Preserves (s.stopBulb h) :=
  State.modTrigger_preserves (fun _ ⟨asserted, _, pulse⟩ => ⟨asserted, rfl, pulse⟩)

theorem State.railOff_preserves (s : State) (h : Head) : s.Preserves (s.railOff h) := by
  refine ((((State.stopOnTime_preserves s h).trans (State.release_preserves _ h)).trans
    (State.stopBulb_preserves _ h)).trans (State.resetPort_preserves _ (headPort h))).trans
    (State.modHead_preserves (fun _ => .of_stopped rfl rfl rfl rfl rfl) (fun _ => .inr ?_) ?_)
  · simp [Trigger.Quiet, State.stopBulb, State.release, releaseTrigger]
  · exact fun awake => absurd rfl awake.1

theorem State.exclude_preserves (s : State) (h : Head) (r : ExclusionReason) : s.Preserves (s.exclude h r) :=
  .ite (fun _ => .refl s)
    (fun _ => (State.modHead_preserves_of_state id rfl).trans (State.raiseBoth_preserves _ _))

theorem State.judgeMisses_preserves (s : State) (h : Head) : s.Preserves (s.judgeMisses h) :=
  .ite
    (fun _ => .ite (fun _ => (State.exclude_preserves s h _).trans (State.railOff_preserves _ h))
      (fun _ => State.exclude_preserves s h _))
    (fun _ => .refl s)

theorem State.countMiss_preserves (s : State) (h : Head) : s.Preserves (s.countMiss h) :=
  (State.modHead_preserves_of_state id rfl).trans (State.judgeMisses_preserves _ h)

theorem State.applyStorageMark_preserves (s : State) (h : Head) : s.Preserves (s.applyStorageMark h) :=
  .ite (fun _ => (State.modHead_preserves_of_state id rfl).trans (State.exclude_preserves _ h _)) (fun _ => .refl s)

theorem State.readmit_preserves (s : State) (h : Head) : s.Preserves (s.readmit h) :=
  State.modHead_preserves_of_state id rfl

/-! ### The frame in flight -/

/-- A frame record that keeps its sequence and its member list. -/
structure Frame.SameMembers (f g : Frame) : Prop where
  sequence : g.sequence = f.sequence
  members : ∀ h : Head, (g.members.get h).isSome = (f.members.get h).isSome

/-- The frame in flight may change in all but its sequence and its member list. -/
theorem State.setFrame_preserves {s : State} {f g : Frame} (frame : s.frame = some f) (same : f.SameMembers g) :
    s.Preserves { s with frame := some g } where
  awake kept h off standby := by
    have member := kept h off standby
    rw [State.member_some h frame, ← same.members h] at member
    exact member
  journal kept := by
    obtain ⟨bound, below, run, next, range⟩ := kept
    have closes : ({ s with frame := some g } : State).nextClosed = s.nextClosed := by
      simp [State.nextClosed, frame, same.sequence]
    refine ⟨bound, closes ▸ below, closes ▸ run, ?_, range⟩
    rintro _ ⟨⟩
    rw [same.sequence]
    exact next f frame
  swap kept _ := rfl
  due kept := ⟨kept.1, fun _ => kept.2 (by rw [frame]; rfl)⟩

theorem State.modFrame_preserves {s : State} {g : Frame → Frame} (same : ∀ f : Frame, f.SameMembers (g f)) :
    s.Preserves (s.modFrame g) := by
  unfold State.modFrame
  split
  · exact .refl s
  · next f frame => exact State.setFrame_preserves frame (same f)

theorem State.modMember_preserves (s : State) (h : Head) (g : Member → Member) : s.Preserves (s.modMember h g) := by
  refine State.modFrame_preserves fun f => ⟨rfl, fun k => ?_⟩
  by_cases e : k = h <;> simp [e]

theorem State.decideEntry_preserves (s : State) (h : Head) (o : EntryOutcome) : s.Preserves (s.decideEntry h o) :=
  State.modMember_preserves s h _

theorem State.setSync_preserves (s : State) (y : Sync) : s.Preserves (s.setSync y) :=
  State.modFrame_preserves fun _ => ⟨rfl, fun _ => rfl⟩

theorem State.setArmTimer_preserves (s : State) (t : Option Nat) : s.Preserves { s with armTimer := t } := {}

theorem State.member_isSome_of_undecided {s : State} {h : Head} (u : s.undecided h = true) :
    (s.member h).isSome = true := by
  obtain ⟨m, hm, -⟩ := (State.undecided_iff s h).1 u
  rw [hm]; rfl

theorem State.member_isSome_of_get {s : State} {f : Frame} {m : Member} {h : Head} (frame : s.frame = some f)
    (member : f.members.get h = some m) : (s.member h).isSome = true := by
  rw [State.member_some h frame, member]; rfl

@[simp] theorem State.decideEntry_member_isSome (s : State) (h k : Head) (o : EntryOutcome) :
    ((s.decideEntry h o).member k).isSome = (s.member k).isSome := by
  by_cases e : k = h
  · subst e; simp
  · simp [e]

/-- CLOSING is entered by members alone, with the grace timer. -/
theorem State.enterClosing_preserves {s : State} {h : Head} (member : (s.member h).isSome = true) :
    s.Preserves (s.modHead h HeadSeq.enterClosing) := by
  refine State.modHead_preserves_of_member ?_ (by simp [HeadSeq.enterClosing, HeadSeq.enter]) member
  simp [HeadSeq.TimersPlaced, HeadSeq.enterClosing, HeadSeq.enter]

/-! ### Waking, firing and D -/

theorem State.railOn_preserves (s : State) (h : Head) : s.Preserves (s.railOn h) := State.modOnTime_preserves s h _

theorem State.enterWaking_preserves {s : State} {h : Head} (member : (s.member h).isSome = true) :
    s.Preserves (s.enterWaking h) := by
  refine State.modHead_preserves_of_member ?_ (by simp [HeadSeq.enter]) member
  simp [HeadSeq.TimersPlaced, HeadSeq.enter]

theorem State.wake_preserves {s : State} {h : Head} (f : Frame) (member : (s.member h).isSome = true) :
    s.Preserves (s.wake f h) := by
  unfold State.wake
  split
  case h_1 =>
    refine (State.railOn_preserves s h).trans (State.enterWaking_preserves ?_)
    rwa [State.member_congr (s := s) h (by simp)]
  case h_2 =>
    refine (State.enqueue_preserves s _ _).trans (State.enterWaking_preserves ?_)
    rwa [State.enqueue_member]
  all_goals exact .refl s

theorem State.wakeIfReached_preserves (h : Head) (s : State) : s.Preserves (State.wakeIfReached h s) := by
  unfold State.wakeIfReached
  split
  · exact .refl s
  · next f frame =>
    split
    · exact .refl s
    · next m member =>
      refine .ite (fun _ => ?_) (fun _ => .refl s)
      exact (State.Preserves.ite (fun _ => State.wake_preserves f (State.member_isSome_of_get frame member))
        (fun _ => .refl s)).trans (State.modMember_preserves _ h _)

theorem State.wakeReached_preserves (s : State) : s.Preserves s.wakeReached :=
  .forHeads State.wakeIfReached_preserves s

/-- Only a head whose rail is on fires. -/
theorem State.fire_preserves {s : State} {h : Head} (on : s.rail h = true) : s.Preserves (State.fire h s) := by
  unfold State.fire
  split
  · exact .refl s
  · next x firing =>
    have member : (s.member h).isSome = true := by
      cases frame : s.frame with
      | none => simp [State.firing, frame] at firing
      | some f => cases entry : f.members.get h <;> simp_all [State.firing, State.member_eq]
    refine (State.modTrigger_preserves fun off => absurd on (by simp [off])).trans
      (State.modHead_preserves_of_member (HeadSeq.enter_timersPlaced _ _) (by simp [HeadSeq.enter]) ?_)
    rwa [State.modTrigger_member]

theorem State.rail_of_armed {s : State} {h : Head} (armed : (s.heads.get h).state = .armed) : s.rail h = true := by
  simp [State.rail, armed]

theorem State.fireIfArmed_preserves (h : Head) (s : State) : s.Preserves (State.fireIfArmed h s) := by
  refine .ite (fun armed => State.fire_preserves (State.rail_of_armed ?_)) (fun _ => .refl s)
  simpa using (Bool.and_eq_true_iff.1 armed).2

theorem State.fireArmed_preserves (s : State) : s.Preserves s.fireArmed := .forHeads State.fireIfArmed_preserves s

theorem State.fireLocked_preserves (s : State) : s.Preserves s.fireLocked :=
  ((State.fireArmed_preserves s).trans (State.setSync_preserves _ _)).trans (State.setArmTimer_preserves _ _)

theorem State.abandonMember_preserves (h : Head) (s : State) : s.Preserves (State.abandonMember h s) := by
  refine .ite (fun undecided => ?_) (fun _ => .refl s)
  have member := State.member_isSome_of_undecided undecided
  have decide (o : EntryOutcome) : s.Preserves (s.decideEntry h o) := State.decideEntry_preserves s h o
  split
  case h_1 | h_2 =>
    exact ((decide _).trans (State.countMiss_preserves _ h)).trans (State.enterClosing_preserves (by simpa using member))
  case h_3 => exact (decide _).trans (State.enterClosing_preserves (by simpa using member))
  case h_4 | h_5 => exact decide _
  all_goals exact .refl s

theorem State.abandon_preserves (s : State) : s.Preserves s.abandon :=
  ((State.Preserves.forHeads State.abandonMember_preserves s).trans (State.setSync_preserves _ _)).trans
    (State.setArmTimer_preserves _ _)

theorem State.abortMember_preserves (h : Head) (s : State) : s.Preserves (State.abortMember h s) := by
  refine .ite (fun undecided => ?_) (fun _ => .refl s)
  have member := State.member_isSome_of_undecided undecided
  split
  case h_1 | h_2 => exact State.decideEntry_preserves s h _
  all_goals
    exact (State.decideEntry_preserves s h _).trans (State.enterClosing_preserves (by simpa using member))

theorem State.abortLocked_preserves (s : State) : s.Preserves s.abortLocked :=
  ((State.Preserves.forHeads State.abortMember_preserves s).trans (State.setSync_preserves _ _)).trans
    (State.setArmTimer_preserves _ _)

theorem State.reachLocked_preserves (s : State) (f : Frame) : s.Preserves (s.reachLocked f) :=
  .ite (fun _ => State.fireLocked_preserves s)
    (fun _ => .ite (fun _ => (State.setSync_preserves s _).trans (State.setArmTimer_preserves _ _))
      (fun _ => State.abandon_preserves s))

theorem State.reachD_preserves (s : State) : s.Preserves s.reachD := by
  unfold State.reachD
  split
  · exact .refl s
  · refine .ite (fun _ => ?_) (fun _ => .refl s)
    split
    · exact (State.setSync_preserves s _).trans (State.fireArmed_preserves _)
    · exact State.reachLocked_preserves s _
    all_goals exact .refl s

end Sys2Proof.Machine

namespace Sys2Proof.Machine

/-! ### The plan in force -/

/-- The plan may change as long as it stays valid and no swap appears without a frame. -/
theorem State.setPlan_preserves {s : State} {pl : Plan}
    (plan : s.PlanValid → ({ s with plan := pl } : State).PlanValid)
    (swap : pl.swapPending.isSome = true → s.plan.swapPending.isSome = true ∨ s.frame.isSome = true) :
    s.Preserves { s with plan := pl } where
  plan := plan
  swap kept pending := (swap pending).elim kept id

/-- A commit from one entry of the list is a commit from any other. -/
theorem commitFault_eq_none_of_lt {b : Bank} {i j : Nat} (valid : commitFault b i = none) (h : j < b.phases.length) :
    commitFault b j = none := by
  rw [commitFault_entry_irrel h (entry_lt_of_commitFault_eq_none valid), valid]

theorem Plan.successorIndex_lt {pl : Plan} (h : 0 < pl.activeBank.phases.length) :
    pl.successorIndex < pl.activeBank.phases.length := by
  unfold Plan.successorIndex
  split <;> omega

theorem State.PlanValid.phases_pos {s : State} (valid : s.PlanValid) : 0 < s.plan.activeBank.phases.length :=
  Nat.zero_lt_of_lt (entry_lt_of_commitFault_eq_none valid.1)

theorem State.enterPhase_successor_preserves (s : State) : s.Preserves (s.enterPhase s.plan.successorIndex) := by
  have entered : s.Preserves { s with plan := s.plan.enter s.plan.successorIndex } := by
    refine State.setPlan_preserves (fun valid => ⟨?_, valid.2⟩) .inl
    exact commitFault_eq_none_of_lt valid.1 (Plan.successorIndex_lt valid.phases_pos)
  exact entered.trans (State.raiseBoth_preserves _ _)

/-- A swap to a bank that commits from its entry. -/
theorem State.swapBanks_preserves {s : State} {entry : Nat}
    (valid : s.PlanValid → commitFault s.plan.shadowBank entry = none) : s.Preserves (s.swapBanks entry) := by
  have swapped : s.Preserves { s with plan := ({ s.plan with
      active := s.plan.active.other, swapPending := none } : Plan).enter entry } := by
    refine State.setPlan_preserves (fun v => ⟨?_, ?_⟩) ?_
    · exact valid v
    · exact fun e he => nomatch he
    · exact fun pending => nomatch pending
  exact (swapped.trans (State.raiseBoth_preserves _ _)).trans (State.raiseBoth_preserves _ _)

theorem State.countFrame_preserves (s : State) (f : Frame) : s.Preserves (s.countFrame f) :=
  .ite (fun _ => State.setPlan_preserves id .inl) (fun _ => .refl s)

theorem State.planClose_preserves (s : State) (f : Frame) : s.Preserves (s.planClose f) := by
  refine (State.countFrame_preserves s f).trans ?_
  unfold State.planClose
  dsimp only
  split
  · next e pending => exact State.swapBanks_preserves fun valid => valid.2 e pending
  · exact .ite (fun _ => State.enterPhase_successor_preserves _) (fun _ => .refl _)

/-- After the Plan Controller's part of a close no swap is pending. -/
theorem State.planClose_swapPending (s : State) (f : Frame) : (s.planClose f).plan.swapPending = none := by
  unfold State.planClose
  dsimp only
  split
  · rfl
  · next none => split <;> exact none

theorem State.judgeLight_preserves (s : State) (r : Reading) (previous : Option ReadingState) :
    s.Preserves (s.judgeLight r previous).1 := by
  unfold State.judgeLight
  have counted (c : Nat) : s.Preserves { s with plan := { s.plan with confirm := c } } :=
    State.setPlan_preserves id .inl
  split
  · dsimp only
    split
    · exact (counted _).trans (State.enterPhase_successor_preserves _)
    · exact counted _
  · exact .refl s

/-! ### The schedule -/

/-- The schedule may change as long as due time and open time come and go together, and none comes during a frame. -/
theorem State.setSched_preserves {s : State} {c : Scheduler}
    (together : s.sched.due.isSome = s.sched.openTime.isSome → c.due.isSome = c.openTime.isSome)
    (absent : s.frame.isSome = true → s.sched.due = none → c.due = none) : s.Preserves { s with sched := c } where
  due kept := ⟨together kept.1, fun frame => absent frame (kept.2 frame)⟩

theorem State.noDue_preserves (s : State) : s.Preserves { s with sched := s.sched.noDue } :=
  State.setSched_preserves (fun _ => rfl) (fun _ _ => rfl)

theorem State.computeDue_preserves {s : State} (frame : s.frame = none) : s.Preserves s.computeDue := by
  unfold State.computeDue
  refine .ite (fun _ => State.noDue_preserves s) (fun _ => ?_)
  split
  · exact State.noDue_preserves s
  · exact State.setSched_preserves (fun _ => rfl) (fun some => by simp [frame] at some)

theorem State.emptyOpen_preserves {s : State} (due : Int) (frame : s.frame = none) : s.Preserves (s.emptyOpen due) :=
  (State.setSched_preserves (c := (s.sched.addSkipped 1).setAnchor due .frame) id (fun _ => id)).trans
    (State.computeDue_preserves frame)

theorem Frame.shift_sameMembers (f : Frame) (d : Int) : f.SameMembers (f.shift d) :=
  ⟨rfl, fun h => by cases h <;> simp [Frame.shift, Four.get]⟩

theorem State.shiftTimes_preserves (s : State) (d : Int) : s.Preserves (s.shiftTimes d) := by
  have moved : s.Preserves { s with sched := s.sched.shift d } :=
    State.setSched_preserves (by simp [Scheduler.shift]) (by simp +contextual [Scheduler.shift])
  cases frame : s.frame with
  | none =>
    have e : s.shiftTimes d = { s with sched := s.sched.shift d } := by simp [State.shiftTimes, frame]
    rwa [e]
  | some f =>
    have e : s.shiftTimes d = { ({ s with sched := s.sched.shift d } : State) with frame := some (f.shift d) } := by
      simp [State.shiftTimes, frame]
    rw [e]
    exact moved.trans (State.setFrame_preserves frame (f.shift_sameMembers d))

/-! ### The open -/

theorem State.setMeter_preserves (s : State) (m : Meter) : s.Preserves { s with meter := m } := {}

theorem State.askReading_preserves (s : State) : s.Preserves s.askReading :=
  .ite (fun _ => State.setMeter_preserves s _) (fun _ => .refl s)

/-- After a restart the counter has a sequence to give, and the ring still ends below it (spec/08 R143). -/
theorem Journal.restart_kept {j : Journal} (bound : j.ring.length ≤ Config.ringCapacity) (below : j.ring.length ≤ j.next)
    (run : sequencesFrom (j.next - j.ring.length) j.ring) (range : j.next ≤ 4294967295) :
    j.restart.ring.length ≤ Config.ringCapacity ∧ j.restart.ring.length ≤ j.restart.next
      ∧ sequencesFrom (j.restart.next - j.restart.ring.length) j.restart.ring ∧ j.restart.next < 4294967295 := by
  unfold Journal.restart
  split
  · simp [sequencesFrom]
  · next e => exact ⟨bound, below, run, by omega⟩

/-- A frame is made only while there is none, so no head is awake at it. -/
theorem State.createFrame_preserves {s : State} (due : Int) (g : HeadSet) (forced : Bool) (frame : s.frame = none) :
    s.Preserves (s.createFrame due g forced) where
  awake kept h off standby := by
    rw [State.createFrame_keeps _ _ _ _ |>.2.2.2.2.2.2.2.2.1] at off standby
    simpa [State.member, frame] using kept h off standby
  journal kept := by
    obtain ⟨bound, below, run, -, range⟩ := kept
    simp only [State.nextClosed, frame] at below run
    obtain ⟨bound', below', run', room⟩ := Journal.restart_kept bound below run range
    refine ⟨bound', below', run', ?_, room⟩
    rintro _ ⟨⟩
    rfl
  swap _ _ := rfl
  due _ := ⟨rfl, fun _ => rfl⟩

theorem State.dropStandby_preserves (g : HeadSet) (h : Head) (s : State) : s.Preserves (State.dropStandby g h s) :=
  .ite (fun _ => State.railOff_preserves s h) (fun _ => .refl s)

theorem State.openFrame_preserves {s : State} (due : Int) (g : HeadSet) (forced : Bool) (frame : s.frame = none) :
    s.Preserves (s.openFrame due g forced) :=
  ((((State.createFrame_preserves due g forced frame).trans (.forHeads (State.dropStandby_preserves g) _)).trans
    (State.askReading_preserves _)).trans (State.wakeReached_preserves _)).trans (State.reachD_preserves _)

theorem State.openScheduled_preserves {s : State} (due : Int) (frame : s.frame = none) :
    s.Preserves (s.openScheduled due) :=
  .ite (fun _ => State.emptyOpen_preserves due frame) (fun _ => State.openFrame_preserves due _ _ frame)

theorem State.tryOpen_preserves (s : State) : s.Preserves s.tryOpen := by
  refine .ite (fun opens => ?_) (fun _ => .refl s)
  have frame : s.frame = none := by simpa using (Bool.and_eq_true_iff.1 opens).1
  split
  · exact State.openScheduled_preserves _ frame
  · exact .refl s

theorem State.reschedule_preserves (s : State) : s.Preserves s.reschedule := by
  refine .ite (fun _ => .refl s) (fun none => ?_)
  exact (State.computeDue_preserves (by simpa using none)).trans (State.tryOpen_preserves _)

/-! ### HALT entry -/

theorem State.haltHead_preserves (h : Head) (s : State) : s.Preserves (State.haltHead h s) := by
  have decided := State.decideEntry_preserves s h .powerCut
  refine decided.trans (.trans ?_ (State.railOff_preserves _ h))
  exact .ite (fun _ => State.applyStorageMark_preserves _ h) (fun _ => .refl _)

theorem State.haltEntry_preserves (s : State) : s.Preserves s.haltEntry := by
  have aborted (f : Frame) : f.SameMembers f.haltAbort := ⟨rfl, fun _ => rfl⟩
  have cut := (State.noDue_preserves s).trans (State.Preserves.forHeads State.haltHead_preserves _)
  exact (cut.trans (State.modFrame_preserves aborted)).trans (State.setArmTimer_preserves _ _)

/-! ### The close -/

theorem State.accountMember_preserves (h : Head) (s : State) : s.Preserves (State.accountMember h s) :=
  .ite (fun _ => State.account_preserves s h) (fun _ => .refl s)

theorem State.followHalt_preserves (s : State) (before : Tier) : s.Preserves (s.followHalt before) :=
  .ite (fun _ => State.haltEntry_preserves s) (fun _ => .refl s)

theorem State.energyClose_preserves (s : State) : s.Preserves s.energyClose :=
  ((State.Preserves.forHeads State.accountMember_preserves s).trans (State.measure_preserves _)).trans
    (State.followHalt_preserves _ _)

theorem State.judgeFill_preserves (s : State) : s.Preserves s.judgeFill where
  journal kept := by
    have ring : s.judgeFill.journal.ring = s.journal.ring := by unfold State.judgeFill; (repeat' split) <;> simp
    have next : s.judgeFill.journal.next = s.journal.next := by unfold State.judgeFill; (repeat' split) <;> simp
    simpa only [State.JournalKept, State.nextClosed, ring, next, State.judgeFill_keeps] using kept

theorem State.deliver_preserves (s : State) (r : JournalRecord) (st : Station) : s.Preserves (s.deliver r st) :=
  .ite (fun _ => State.enqueue_preserves s _ _) (fun _ => State.raiseAt_preserves s _ _)

theorem sequencesFrom_append {n : Nat} {l : List JournalRecord} {r : JournalRecord} (run : sequencesFrom n l)
    (last : r.sequence = n + l.length) : sequencesFrom n (l ++ [r]) := by
  induction l generalizing n with
  | nil => exact ⟨last, trivial⟩
  | cons x rest ih =>
    refine ⟨run.1, ih run.2 ?_⟩
    simp only [last, List.length_cons]; omega

theorem sequencesFrom_drop_one {n : Nat} {l : List JournalRecord} (run : sequencesFrom n l) :
    sequencesFrom (n + 1) (l.drop 1) := by
  cases l with
  | nil => trivial
  | cons x rest => exact run.2

/-- The record that ends right above the ring keeps it consecutive, the oldest giving way (spec/08 R144). -/
theorem appendRing_kept {ring : List JournalRecord} {r : JournalRecord} (bound : ring.length ≤ Config.ringCapacity)
    (below : ring.length ≤ r.sequence) (run : sequencesFrom (r.sequence - ring.length) ring) :
    (appendRing ring r).length ≤ Config.ringCapacity ∧ (appendRing ring r).length ≤ r.sequence + 1
      ∧ sequencesFrom (r.sequence + 1 - (appendRing ring r).length) (appendRing ring r) := by
  unfold appendRing
  split
  · next full =>
    have length : ring.length = 256 := Nat.le_antisymm bound full
    refine ⟨by simp [length], by simp [length]; omega, sequencesFrom_append ?_ (by simp [length]; omega)⟩
    convert sequencesFrom_drop_one run using 1
    simp [length]; omega
  · next room =>
    refine ⟨by simp; omega, by simpa using below, sequencesFrom_append ?_ (by simp; omega)⟩
    simpa using run

/-- No member of the frame in flight is awake. -/
def State.MembersAsleep (s : State) : Prop := ∀ h : Head, (s.member h).isSome = true → ¬(s.heads.get h).state.Awake

/-- The end of a close: the record joins the ring and there is no frame, with its members asleep and no swap pending. -/
theorem State.journalClose_preserves {s : State} {f g : Frame} (frame : s.frame = some g)
    (sequence : g.sequence = f.sequence) (asleep : s.MembersAsleep) (settled : s.plan.swapPending = none) :
    s.Preserves { s.journalClose f with frame := none } := by
  have taken : s.Preserves
      { s with journal := { s.journal with ring := appendRing s.journal.ring (s.recordOf f) }, frame := none } := {
    awake := fun kept h off standby => absurd ⟨off, standby⟩ (asleep h (kept h off standby))
    journal := fun kept => by
      obtain ⟨bound, below, run, next, range⟩ := kept
      have closes : s.nextClosed = (s.recordOf f).sequence := by simp [State.nextClosed, frame, State.recordOf, sequence]
      rw [closes] at below run
      obtain ⟨bound', below', run'⟩ := appendRing_kept bound below run
      have next' : s.journal.next = (s.recordOf f).sequence + 1 := by rw [next g frame, sequence]; rfl
      refine ⟨bound', ?_, ?_, fun _ none => (nomatch none), range⟩
      · simpa [State.nextClosed, next'] using below'
      · simpa [State.nextClosed, next'] using run'
    swap := fun _ pending => by simp [settled] at pending
    due := fun kept => ⟨kept.1, fun frame => nomatch frame⟩ }
  have delivered (u : State) (r : JournalRecord) : u.Preserves ((u.judgeFill.deliver r .ul).deliver r .sv) :=
    ((State.judgeFill_preserves u).trans (State.deliver_preserves _ r .ul)).trans (State.deliver_preserves _ r .sv)
  convert taken.trans (delivered _ (s.recordOf f)) using 1
  simp only [State.journalClose, State.judgeFill, State.deliver, State.enqueue, State.raiseBoth, State.raiseAt,
    State.modStation, State.modPort, State.hasPlace]
  split_ifs <;> rfl

end Sys2Proof.Machine

namespace Sys2Proof.Machine

/-! ### What the blocks of a close leave of the frame and of its members -/

/-- The frame in flight stays, with its sequence and its member list. -/
def State.FrameStays (s t : State) : Prop := ∀ f : Frame, s.frame = some f → ∃ g : Frame, t.frame = some g ∧ f.SameMembers g

theorem Frame.SameMembers.trans {f g k : Frame} (a : f.SameMembers g) (b : g.SameMembers k) : f.SameMembers k :=
  ⟨b.sequence.trans a.sequence, fun h => (b.members h).trans (a.members h)⟩

theorem State.FrameStays.of_eq {s t : State} (frame : t.frame = s.frame) : s.FrameStays t :=
  fun f hf => ⟨f, frame.trans hf, rfl, fun _ => rfl⟩

theorem State.FrameStays.trans {s t u : State} (a : s.FrameStays t) (b : t.FrameStays u) : s.FrameStays u := by
  intro f hf
  obtain ⟨g, hg, same⟩ := a f hf
  obtain ⟨k, hk, same'⟩ := b g hg
  exact ⟨k, hk, same.trans same'⟩

theorem State.modFrame_stays {s : State} {g : Frame → Frame} (same : ∀ f : Frame, f.SameMembers (g f)) :
    s.FrameStays (s.modFrame g) :=
  fun f hf => ⟨g f, by simp [hf], same f⟩

theorem State.setArmTimer_stays (s : State) (t : Option Nat) : s.FrameStays { s with armTimer := t } := .of_eq rfl

theorem State.haltHead_stays (h : Head) (s : State) : s.FrameStays (State.haltHead h s) := by
  have decided : s.FrameStays (s.decideEntry h .powerCut) := by
    refine State.modFrame_stays fun f => ⟨rfl, fun k => ?_⟩
    by_cases e : k = h <;> simp [e]
  exact decided.trans (.of_eq (by simp only [State.haltHead]; split <;> simp))

theorem State.haltEntry_stays (s : State) : s.FrameStays s.haltEntry := by
  have heads (t : State) : t.FrameStays (forHeads State.haltHead t) :=
    (((State.haltHead_stays .h0 t).trans (State.haltHead_stays .h1 _)).trans (State.haltHead_stays .h2 _)).trans
      (State.haltHead_stays .h3 _)
  have aborted (f : Frame) : f.SameMembers f.haltAbort := ⟨rfl, fun _ => rfl⟩
  have held : s.FrameStays { s with sched := s.sched.noDue } := .of_eq rfl
  exact ((held.trans (heads _)).trans (State.modFrame_stays aborted)).trans (State.setArmTimer_stays _ none)

/-- HALT entry turns one head off and leaves the state of the others. -/
theorem State.haltHead_state (s : State) (h k : Head) :
    ((State.haltHead h s).heads.get k).state = if k = h then .off else (s.heads.get k).state := by
  simp only [State.haltHead, State.railOff_heads, Four.get_set]
  split
  · rfl
  · next e => split <;> simp [State.applyStorageMark]; split <;> simp [State.exclude_heads, e]

/-- HALT entry leaves no head on. -/
theorem State.haltEntry_off (s : State) (h : Head) : (s.haltEntry.heads.get h).state = .off := by
  simp only [State.haltEntry, forHeads, State.modFrame_keeps, State.haltHead_state]
  cases h <;> simp

theorem State.energyClose_stays (s : State) : s.FrameStays s.energyClose := by
  have measured : s.FrameStays (forHeads State.accountMember s).measure := .of_eq (by simp [forHeads])
  refine measured.trans ?_
  simp only [State.energyClose, State.followHalt]
  split
  · exact State.haltEntry_stays _
  · exact .of_eq rfl

/-- The Energy Monitor's part of a close leaves the state of every head, or turns every head off. -/
theorem State.energyClose_heads (s : State) :
    s.energyClose.heads = s.heads ∨ ∀ h : Head, (s.energyClose.heads.get h).state = .off := by
  simp only [State.energyClose, State.followHalt]
  split
  · exact .inr (State.haltEntry_off _)
  · exact .inl (by simp [forHeads])

theorem State.member_isSome_of_stays {s t : State} {f : Frame} (stays : s.FrameStays t) (frame : s.frame = some f)
    (h : Head) : (t.member h).isSome = (s.member h).isSome := by
  obtain ⟨g, hg, same⟩ := stays f frame
  rw [State.member_some h hg, State.member_some h frame, same.members]

theorem State.MembersAsleep.energyClose {s : State} {f : Frame} (asleep : s.MembersAsleep) (frame : s.frame = some f) :
    s.energyClose.MembersAsleep := by
  intro h member awake
  rcases s.energyClose_heads with same | off
  · rw [State.member_isSome_of_stays s.energyClose_stays frame] at member
    exact asleep h member (same ▸ awake)
  · exact absurd (off h) awake.1

/-! ### The close and the end of an event -/

theorem State.takeUpClose_preserves {s : State} {f g : Frame} (frame : s.frame = some f) (same : f.SameMembers g)
    (asleep : s.MembersAsleep) : s.Preserves (s.takeUpClose g) := by
  let begun : State := { s with frame := some g, armTimer := none }
  have asleep' : begun.MembersAsleep := fun h member =>
    asleep h (by rwa [State.member_some h frame, ← same.members h])
  obtain ⟨k, frame', same'⟩ := begun.energyClose_stays g rfl
  have begins : s.Preserves begun := (State.setFrame_preserves frame same).trans (State.setArmTimer_preserves _ none)
  have planned : s.Preserves (begun.energyClose.planClose g) :=
    (begins.trans (State.energyClose_preserves _)).trans (State.planClose_preserves _ g)
  refine planned.trans (State.journalClose_preserves (g := k) ?_ same'.sequence ?_ (State.planClose_swapPending _ g))
  · simpa using frame'
  · intro h member
    rw [State.member_congr (s := begun.energyClose) h (by simp)] at member
    simpa using asleep'.energyClose rfl h member

theorem State.afterFrame_preserves (s : State) (f : Frame) : s.Preserves { s with sched := s.sched.afterFrame f } := by
  unfold Scheduler.afterFrame
  split
  · exact .refl s
  · exact State.setSched_preserves id (fun _ => id)

theorem State.closeFrame_preserves {s : State} {f : Frame} (frame : s.frame = some f) (asleep : s.MembersAsleep) :
    s.Preserves (s.closeFrame f) := by
  have judged : f.SameMembers { f with outcome := some f.judgeOutcome } := ⟨rfl, fun _ => rfl⟩
  exact ((State.takeUpClose_preserves frame judged asleep).trans (State.afterFrame_preserves _ f)).trans
    (State.reschedule_preserves _)

/-- The members of a finished frame are OFF or in STANDBY. -/
theorem State.membersAsleep_of_finished {s : State} (finished : s.frameFinished = true) : s.MembersAsleep := by
  have each : ∀ h : Head, s.memberFinished h = true := by
    simp only [State.frameFinished, allHeads, Bool.and_eq_true] at finished
    obtain ⟨⟨⟨h0, h1⟩, h2⟩, h3⟩ := finished
    rintro (_ | _ | _ | _) <;> assumption
  rintro h member ⟨off, standby⟩
  have fin := each h
  unfold State.memberFinished at fin
  split at fin <;> simp_all

theorem State.closeIfFinished_preserves (s : State) : s.Preserves s.closeIfFinished := by
  unfold State.closeIfFinished
  split
  · exact .refl s
  · next f frame =>
    exact .ite (fun finished => State.closeFrame_preserves frame (State.membersAsleep_of_finished finished))
      (fun _ => .refl s)

theorem State.followTier_preserves (s : State) (before : Tier) : s.Preserves (s.followTier before) :=
  .ite (fun _ => .refl s)
    (fun _ => .ite (fun _ => State.haltEntry_preserves s) (fun _ => State.reschedule_preserves s))

theorem State.finish_preserves (s : State) (before : Tier) : s.Preserves (s.finish before) :=
  (State.followTier_preserves s before).trans (State.closeIfFinished_preserves _)

/-! ### The effects that wait for a reply -/

theorem State.changeSpeed_preserves (s : State) (p : Port) (v : LineSpeed) : s.Preserves (s.changeSpeed p v) :=
  .ite (fun _ => .refl s) (fun _ => (State.rxToHunt_preserves s p).trans (State.modPort_preserves ⟨id, id⟩))

theorem State.loseMember_preserves (s : State) (h : Head) : s.Preserves (s.loseMember h) := by
  refine ((State.decideEntry_preserves s h .reset).trans (State.railOff_preserves _ h)).trans ?_
  unfold State.loseMember
  dsimp only
  split
  · exact .refl _
  · split
    case h_1 | h_2 => exact State.abortLocked_preserves _
    all_goals exact .refl _

theorem State.resetHeadPort_preserves (s : State) (h : Head) : s.Preserves (s.resetHeadPort h) := by
  refine .ite (fun _ => State.loseMember_preserves s h)
    (fun _ => .ite (fun _ => .trans ?_ (State.railOff_preserves _ h)) (fun _ => State.resetPort_preserves s _))
  exact .ite (fun _ => State.applyStorageMark_preserves s h) (fun _ => .refl s)

theorem State.takePortReset_preserves (s : State) (p : Port) : s.Preserves (s.takePortReset p) := by
  unfold State.takePortReset
  split
  · exact State.resetHeadPort_preserves s _
  · exact State.resetPort_preserves s p

theorem State.runEffects_preserves (n : Nat) (effects : List Effect) (s : State) :
    s.Preserves (State.runEffects n effects s) := by
  induction n generalizing effects s with
  | zero => exact .refl s
  | succ n ih =>
    match effects with
    | [] => exact .refl s
    | .lineSpeed p v :: rest => exact (State.changeSpeed_preserves s p v).trans (ih _ _)
    | .portReset p :: rest => exact (State.takePortReset_preserves s p).trans (ih _ _)

theorem State.messageSent_preserves (s : State) (p : Port) : s.Preserves (s.messageSent p) := by
  unfold State.messageSent
  split
  · exact .refl s
  · next m rest queue =>
    have sent : s.Preserves (s.modPort p (fun x => { x with queue := rest })) :=
      State.modPort_preserves ⟨fun bound => Nat.le_of_succ_le (by simpa [queue] using bound), id⟩
    exact (sent.trans (State.runEffects_preserves _ _ _)).trans (State.finish_preserves _ _)

end Sys2Proof.Machine

namespace Sys2Proof.Machine

/-! ### The commands: line, clock and supply -/

/-- A command goes on to a state that keeps the relations. -/
def State.Goes (s : State) (o : StepOutcome) : Prop := ∃ t : State, o = .next t ∧ s.Preserves t

theorem State.Preserves.goes {s t : State} (h : s.Preserves t) : s.Goes (.next t) := ⟨t, rfl, h⟩

theorem State.request_preserves (s : State) (k : Kind) (p : Port) (tag : Byte) {take : State → State × Reply}
    (taken : ∀ t : State, t.Preserves (take t).1) : s.Preserves (s.request k p tag take) := by
  unfold State.request
  dsimp only
  have hunted := State.rxToHunt_preserves s p
  refine .ite (fun _ => .ite (fun _ => .ite (fun _ => ?_) (fun _ => ?_)) (fun _ => ?_)) (fun _ => .refl s)
  · exact (hunted.trans (taken _)).trans (State.enqueue_preserves _ p _)
  · exact hunted.trans (State.enqueue_preserves _ p _)
  · exact hunted.trans (State.countError_preserves _ p _)

theorem State.whileRunning_preserves (s : State) {f : State → State} (effect : ∀ t : State, t.Preserves (f t)) :
    s.Preserves (s.whileRunning f) :=
  .ite (fun _ => effect s) (fun _ => .refl s)

theorem State.assemble_preserves (s : State) (p : Port) (a : Assembly) : s.Preserves (s.assemble p a) :=
  State.modPort_preserves ⟨id, id⟩

theorem State.setTime_preserves (s : State) (t : TimeBase) : s.Preserves { s with time := t } := {}

theorem HeadSeq.TimersPlaced.elapse {x : HeadSeq} (h : x.TimersPlaced) (n : Nat) : (x.elapse n).TimersPlaced := by
  simpa [HeadSeq.TimersPlaced, HeadSeq.elapse, runTimer] using h

theorem Trigger.Quiet.elapse {t : Trigger} (h : t.Quiet) (n : Nat) : (t.elapse n).Quiet := by
  obtain ⟨asserted, bulb, pulse⟩ := h
  exact ⟨asserted, by simp [Trigger.elapse, runTimer, bulb], by simp [Trigger.elapse, runTimer, pulse]⟩

theorem State.elapse_preserves (s : State) (n : Nat) : s.Preserves (s.elapse n) where
  queues bounded q := by simpa [State.elapse, PortState.elapse] using bounded q
  errors bounded q := by simpa [State.elapse, PortState.elapse] using bounded q
  timers placed h := by
    rw [State.elapse, Four.get_map]
    exact (placed h).elapse n
  triggers follow h off := by
    rw [State.elapse, Four.get_map]
    exact (follow h (by simpa [State.rail, State.elapse, HeadSeq.elapse] using off)).elapse n
  awake kept h off standby := by
    simp only [State.elapse, Four.get_map, HeadSeq.elapse] at off standby
    exact kept h off standby
  tier := id
  corrections := .congr rfl rfl
  journal := .congr rfl rfl
  plan := .congr rfl
  swap := .congr rfl rfl
  due := .congr rfl rfl
  pending := rfl

theorem State.advanceCount_preserves (s : State) : s.Preserves s.advanceCount := by
  unfold State.advanceCount
  exact (State.Preserves.ite (fun _ => State.shiftTimes_preserves s _) (fun _ => .refl s)).trans
    (State.setTime_preserves _ _)

theorem State.rollover_preserves (s : State) : s.Preserves s.rollover := by
  have cleared : s.Preserves { s with energy := { s.energy with spend := 0 } } := State.setEnergy_preserves s id
  exact cleared.trans (.forHeads (fun h t => State.readmit_preserves t h) _)

theorem State.runningRollover_preserves (s : State) : s.Preserves s.runningRollover :=
  ((State.rollover_preserves s).trans (State.judgeFloor_judgeTier_preserves _)).trans (State.followTier_preserves _ _)

theorem State.judgeAtTime_preserves (s : State) : s.Preserves s.judgeAtTime :=
  .ite (fun _ => (State.enterPhase_successor_preserves s).trans (State.reschedule_preserves _)) (fun _ => .refl s)

theorem State.actOnAdvance_preserves (s : State) : s.Preserves s.actOnAdvance := by
  have rolled : s.Preserves (if s.rolloverDue then s.runningRollover else s) :=
    .ite (fun _ => State.runningRollover_preserves s) (fun _ => .refl s)
  exact ((((rolled.trans (State.judgeAtTime_preserves _)).trans (State.tryOpen_preserves _)).trans
    (State.reachD_preserves _)).trans (State.wakeReached_preserves _)).trans (State.closeIfFinished_preserves _)

theorem State.advanceRunning_preserves (s : State) : s.Preserves s.advanceRunning :=
  ((State.elapse_preserves s _).trans (State.advanceCount_preserves _)).trans (State.actOnAdvance_preserves _)

theorem State.advanceStopped_preserves (s : State) : s.Preserves s.advanceStopped := by
  unfold State.advanceStopped
  exact (State.advanceCount_preserves s).trans
    (.ite (fun _ => State.rollover_preserves _) (fun _ => .refl _))

theorem State.takeClockSet_preserves (s : State) (count : Nat) : s.Preserves (s.takeClockSet count).1 :=
  ((State.shiftTimes_preserves s _).trans (State.setTime_preserves _ _)).trans (State.raiseBoth_preserves _ _)

theorem PortState.dark_preserves (x : PortState) : x.Preserves x.dark := ⟨fun _ => Nat.zero_le _, id⟩

theorem PortState.warm_preserves (x : PortState) (v : LineSpeed) : x.Preserves (x.warm v) :=
  ⟨fun _ => Nat.zero_le _, fun _ => ErrorCounts.bounded_zero⟩

/-- A stopped part: every head OFF, every trigger quiet. -/
theorem State.goDark_preserves (s : State) : s.Preserves s.goDark where
  queues bounded q := by cases q <;> exact Nat.zero_le _
  errors bounded q := by
    have kept := bounded q
    cases q <;> exact kept
  timers _ h := by cases h <;> exact HeadSeq.enter_timersPlaced _ _
  triggers _ h _ := by cases h <;> exact ⟨rfl, rfl, rfl⟩
  awake _ h off _ := by cases h <;> exact absurd rfl off
  tier := id
  corrections := .congr rfl rfl
  journal := .congr rfl rfl
  plan := .congr rfl
  swap := .congr rfl rfl
  due := .congr rfl rfl
  pending := rfl

theorem State.setSupply_preserves (s : State) (v : Supply) : s.Preserves { s with supply := v } := {}

theorem State.setBsense_preserves (s : State) (b : BSense) : s.Preserves { s with bsense := b } := {}

/-- The reset state has every relation of Safety.lean. -/
theorem State.reset_good : State.reset.QueuesBounded ∧ State.reset.ErrorsBounded ∧ State.reset.TimersPlaced
    ∧ State.reset.TriggersFollowRails ∧ State.reset.AwakeOnlyInFrame ∧ State.reset.EffectiveIsWorse
    ∧ State.reset.JournalKept ∧ State.reset.CorrectionsBounded ∧ State.reset.PlanValid
    ∧ State.reset.SwapWaitsForFrame ∧ State.reset.DueTogether := by
  have valid : commitFault defaultBank 0 = none := by decide
  refine ⟨fun p => ?_, fun p => ?_, fun h => ?_, fun h _ => ?_, fun h off _ => ?_, rfl, ?_, ⟨?_, fun h => ?_⟩,
    ⟨valid, nofun⟩, nofun, rfl, nofun⟩
  · cases p <;> exact Nat.zero_le _
  · cases p <;> exact ErrorCounts.bounded_zero
  · cases h <;> exact .of_stopped rfl rfl rfl rfl rfl
  · cases h <;> exact ⟨rfl, rfl, rfl⟩
  · cases h <;> exact absurd rfl off
  · exact ⟨Nat.zero_le _, Nat.zero_le _, trivial, fun _ none => (nomatch none), Nat.zero_le _⟩
  · exact (show 192 ≤ 384 by omega)
  · cases h <;> exact (show -192 ≤ (0 : Int) ∧ (0 : Int) ≤ 192 by omega)

theorem State.coldStarted_preserves (s : State) (shown : List Nat) : s.Preserves (s.coldStarted shown) := by
  obtain ⟨queues, errors, timers, triggers, awake, tier, journal, corrections, plan, swap, due⟩ := State.reset_good
  have restarted : s.Preserves { State.reset with bsense := s.bsense.present shown, pending := s.pending } :=
    ⟨fun _ => queues, fun _ => errors, fun _ => timers, fun _ => triggers, fun _ => awake, fun _ => tier,
      fun _ => corrections, fun _ => journal, fun _ => plan, fun _ => swap, fun _ => due, rfl⟩
  exact restarted.trans (State.measure_preserves _)

/-! ### Warm start -/

/-- What a warm start puts at its first values besides the dark state is outside the relations, or clears it. -/
theorem State.warmValues_preserves (s : State) : s.Preserves s.warmValues := by
  have dark := State.goDark_preserves s
  exact {
    queues := fun bounded q => by cases q <;> exact Nat.zero_le _
    errors := fun _ q => by cases q <;> exact ErrorCounts.bounded_zero
    timers := fun _ h => by cases h <;> exact .of_stopped rfl rfl rfl rfl rfl
    triggers := fun _ h _ => by cases h <;> exact ⟨rfl, rfl, rfl⟩
    awake := fun _ h off _ => by cases h <;> exact absurd rfl off
    tier := dark.tier
    corrections := dark.corrections
    journal := dark.journal
    plan := dark.plan
    swap := dark.swap
    due := dark.due
    pending := rfl }

theorem State.settleOnTime_preserves (h : Head) (s : State) : s.Preserves (State.settleOnTime h s) :=
  (State.Preserves.ite (fun _ => State.account_preserves s h) (fun _ => .refl s)).trans
    (State.modOnTime_preserves _ h _)

theorem State.countMissed_preserves (s : State) : s.Preserves s.countMissed := by
  unfold State.countMissed
  split
  · exact State.setSched_preserves id (fun _ => id)
  · exact .refl s

theorem Frame.losePower_sameMembers (f : Frame) (n : Nat) : f.SameMembers (f.losePower n) :=
  ⟨rfl, fun h => by cases h <;> simp [Frame.losePower, Four.get]⟩

theorem State.closeInterrupted_preserves {s : State} (asleep : s.MembersAsleep) : s.Preserves s.closeInterrupted := by
  unfold State.closeInterrupted
  split
  · exact .refl s
  · next f frame =>
    have cleared : s.Preserves { s with sched := { s.sched with skipped := 0 } } :=
      State.setSched_preserves id (fun _ => id)
    exact cleared.trans (State.takeUpClose_preserves frame (f.losePower_sameMembers _) asleep)

theorem State.resumeEnergy_preserves (s : State) : s.Preserves s.resumeEnergy where
  tier _ := State.judgeTier_effectiveIsWorse _
  timers := .congr (by simp [State.resumeEnergy])
  queues := .congr (by simp [State.resumeEnergy])
  errors := .congr (by simp [State.resumeEnergy])
  triggers := .congr (by simp [State.resumeEnergy]) (by simp [State.resumeEnergy])
  awake := .congr (by simp [State.resumeEnergy]) (by simp [State.resumeEnergy])
  corrections := .congr (by simp [State.resumeEnergy]) (by simp [State.resumeEnergy])
  journal := .congr (by simp [State.resumeEnergy]) (by simp [State.resumeEnergy])
  plan := .congr (by simp [State.resumeEnergy])
  swap := .congr (by simp [State.resumeEnergy]) (by simp [State.resumeEnergy])
  due := .congr (by simp [State.resumeEnergy]) (by simp [State.resumeEnergy])
  pending := by simp [State.resumeEnergy]

theorem State.resumeMeter_preserves (s : State) : s.Preserves s.resumeMeter := State.setMeter_preserves s _

theorem State.resumeSchedule_preserves (s : State) : s.Preserves s.resumeSchedule := by
  unfold State.resumeSchedule
  split
  · have anchored : s.Preserves { s with sched := s.sched.setAnchor (s.now + Config.startDelay) .start } :=
      State.setSched_preserves id (fun _ => id)
    exact anchored.trans (State.reschedule_preserves _)
  · exact State.noDue_preserves s

/-- Step 2 of a warm start accounts and moves nothing else. -/
theorem State.settleOnTime_heads (h : Head) (s : State) : (State.settleOnTime h s).heads = s.heads := by
  unfold State.settleOnTime
  split <;> simp

theorem State.countMissed_heads (s : State) : s.countMissed.heads = s.heads := by
  unfold State.countMissed
  split <;> rfl

theorem State.warmStarted_preserves (s : State) (shown : List Nat) : s.Preserves (s.warmStarted shown) := by
  let t : State := { s with bsense := s.bsense.present shown }
  have settled : s.Preserves (forHeads State.settleOnTime t.warmValues).countMissed :=
    (((State.setBsense_preserves s _).trans (State.warmValues_preserves t)).trans
      (.forHeads State.settleOnTime_preserves _)).trans (State.countMissed_preserves _)
  have asleep : (forHeads State.settleOnTime t.warmValues).countMissed.MembersAsleep := by
    intro h _ awake
    simp only [State.countMissed_heads, forHeads, State.settleOnTime_heads] at awake
    cases h <;> exact absurd rfl awake.1
  exact (((settled.trans (State.closeInterrupted_preserves asleep)).trans (State.resumeEnergy_preserves _)).trans
    (State.resumeMeter_preserves _)).trans (State.resumeSchedule_preserves _)

end Sys2Proof.Machine

namespace Sys2Proof.Machine

/-! ### The head kinds -/

/-- A ramp record may change as long as its correction stays within the limit. -/
theorem State.modRamp_preserves {s : State} {h : Head} {g : RampRecord → RampRecord}
    (bounded : -(s.settings.correctionLimit : Int) ≤ (s.ramps.get h).correction
        ∧ (s.ramps.get h).correction ≤ s.settings.correctionLimit →
      -(s.settings.correctionLimit : Int) ≤ (g (s.ramps.get h)).correction
        ∧ (g (s.ramps.get h)).correction ≤ s.settings.correctionLimit) : s.Preserves (s.modRamp h g) where
  corrections kept := by
    refine ⟨kept.1, fun k => ?_⟩
    rw [State.modRamp_ramps, State.modRamp_settings, Four.get_set]
    split
    · exact bounded (kept.2 h)
    · exact kept.2 k

theorem Frame.ticketed_sameMembers (f : Frame) (h : Head) (x : TicketFigures) (mode : TriggerMode)
    (latest : Option Reading) : f.SameMembers (f.ticketed h x mode latest) := by
  refine ⟨rfl, fun k => ?_⟩
  by_cases e : k = h <;> simp [Frame.ticketed, e]

theorem State.askTicket_preserves {s : State} {f : Frame} (h : Head) (frame : s.frame = some f) :
    s.Preserves (s.askTicket f h) := by
  refine .ite (fun _ => .refl s) (fun _ => ?_)
  have recorded : s.Preserves (s.modRamp h (fun r => r.ticketed f.sequence (s.ticketInputs f h).compute)) :=
    State.modRamp_preserves id
  exact recorded.trans (State.setFrame_preserves (by simpa using frame) (Frame.ticketed_sameMembers _ _ _ _ _))

theorem State.enterTicketed_preserves {s : State} {h : Head} (f : Frame) (member : (s.member h).isSome = true) :
    s.Preserves (s.enterTicketed f h) := by
  refine State.modHead_preserves_of_member ?_ (by simp [HeadSeq.enter]) member
  simp [HeadSeq.TimersPlaced, HeadSeq.enter]

@[simp] theorem State.askTicket_member_isSome {s : State} {f : Frame} (h k : Head) (frame : s.frame = some f) :
    ((s.askTicket f h).member k).isSome = (s.member k).isSome := by
  unfold State.askTicket
  split
  · rfl
  · rw [State.member_some k frame, State.member_some (s := s.computeTicket f h) k rfl]
    exact (Frame.ticketed_sameMembers f h _ _ _).members k

theorem State.takeHello_preserves (s : State) (h : Head) : s.Preserves (s.takeHello h).1 := by
  unfold State.takeHello
  split
  · exact .refl s
  · next f frame =>
    split
    · exact .refl s
    · next m entry =>
      have member := State.member_isSome_of_get frame entry
      have asked := State.askTicket_preserves h frame
      split
      · exact .refl s
      · unfold State.takeMemberHello
        split
        case h_1 => exact asked.trans (State.enterTicketed_preserves f (by simpa [frame] using member))
        case h_2 | h_3 => exact asked
        all_goals exact .refl s

/-- A member that becomes ARMED waits, or fires at once as the sync state has it. -/
theorem State.arm_preserves {s : State} {h : Head} (f : Frame) (member : (s.member h).isSome = true) :
    s.Preserves (s.arm f h) := by
  have armed : s.Preserves (s.modHead h (fun x => x.enter .armed)) :=
    State.modHead_preserves_of_member (HeadSeq.enter_timersPlaced _ _) (by simp [HeadSeq.enter]) member
  unfold State.arm
  dsimp only
  split
  case h_1 => exact armed.trans (State.fire_preserves (by simp [State.rail, HeadSeq.enter]))
  case h_2 => exact armed.trans (.ite (fun _ => State.fireLocked_preserves _) (fun _ => .refl _))
  all_goals exact armed

theorem State.takeReady_preserves (s : State) (h : Head) (sequence : Nat) :
    s.Preserves (s.takeReady h sequence).1 := by
  unfold State.takeReady
  split
  · exact .refl s
  · next f frame =>
    split
    · exact .refl s
    · next m entry =>
      split
      · exact .refl s
      · unfold State.takeMemberReady
        split
        case h_1 =>
          split
          · exact State.arm_preserves f (State.member_isSome_of_get frame entry)
          · exact .refl s
        case h_2 => split <;> exact .refl s
        all_goals exact .refl s

theorem State.endExposure_preserves (s : State) (f : Frame) (m : Member) (h : Head) :
    s.Preserves (s.endExposure f m h) := by
  refine .ite (fun _ => ?_) (fun _ => .refl s)
  split
  · exact (State.release_preserves s h).trans (State.stopBulb_preserves _ h)
  · exact State.stopBulb_preserves s h

@[simp] theorem State.endExposure_frame (s : State) (f : Frame) (m : Member) (h : Head) :
    (s.endExposure f m h).frame = s.frame := by
  unfold State.endExposure
  (repeat' split) <;> simp

theorem clampInt_bounds {lo hi : Int} (v : Int) (h : lo ≤ hi) : lo ≤ clampInt lo hi v ∧ clampInt lo hi v ≤ hi := by
  rw [clampInt_eq v h]; omega

theorem RampRecord.delivered_bounded {r : RampRecord} {limit : Nat} (ph : Phase) (level : Nat)
    (bounded : -(limit : Int) ≤ r.correction ∧ r.correction ≤ limit) :
    -(limit : Int) ≤ (r.delivered limit ph level).correction ∧ (r.delivered limit ph level).correction ≤ limit := by
  unfold RampRecord.delivered
  dsimp only
  split
  · exact clampInt_bounds _ (by omega)
  · exact bounded

theorem State.deliverResult_preserves {s : State} {f : Frame} {m : Member} {h : Head} (level storageFree : Nat)
    (keepOff : Bool) (member : (s.member h).isSome = true) :
    s.Preserves (s.deliverResult f m h level storageFree keepOff) := by
  have ended := State.endExposure_preserves s f m h
  have settings : (s.endExposure f m h).settings = s.settings := by
    unfold State.endExposure; (repeat' split) <;> simp
  have recorded : (s.endExposure f m h).Preserves
      ((s.endExposure f m h).modRamp h (fun r => r.delivered s.settings.correctionLimit f.phase level)) :=
    State.modRamp_preserves fun bounded => by
      rw [settings] at bounded ⊢
      exact RampRecord.delivered_bounded f.phase level bounded
  refine (((ended.trans recorded).trans (State.modMember_preserves _ h _)).trans
    (State.decideEntry_preserves _ h _)).trans (State.modHead_preserves_of_member ?_ ?_ ?_)
  · simp [HeadSeq.TimersPlaced, HeadSeq.takeResult, HeadSeq.enterClosing, HeadSeq.enter]
  · simp [HeadSeq.takeResult, HeadSeq.enterClosing, HeadSeq.enter]
  · rw [State.member_eq] at member
    rw [State.decideEntry_member_isSome, State.member_eq, State.modMember_frame]
    cases frame : s.frame <;> simp_all

theorem State.takeResult_preserves (s : State) (h : Head) (sequence level storageFree : Nat) (keepOff : Bool) :
    s.Preserves (s.takeResult h sequence level storageFree keepOff).1 := by
  unfold State.takeResult
  split
  · exact .refl s
  · next f frame =>
    split
    · exact .refl s
    · next m entry =>
      split
      · exact .refl s
      · split
        case h_1 | h_2 =>
          split
          · exact State.deliverResult_preserves _ _ _ (State.member_isSome_of_get frame entry)
          · exact .refl s
        all_goals exact .refl s

theorem headTake_preserves {p : Port} {take : Head → State → State × Reply}
    (taken : ∀ (h : Head) (s : State), s.Preserves (take h s).1) (s : State) : s.Preserves (headTake p take s).1 := by
  unfold headTake
  split
  · exact taken _ s
  · exact .refl s

/-! ### The station kinds -/

theorem stationTake_preserves {p : Port} {take : Station → State → State × Reply}
    (taken : ∀ (st : Station) (s : State), s.Preserves (take st s).1) (s : State) :
    s.Preserves (stationTake p take s).1 := by
  unfold stationTake
  split
  · exact taken _ s
  · exact .refl s

theorem State.clearErrors_preserves (s : State) (q : Port) : s.Preserves (s.clearErrors q) :=
  State.modPort_preserves ⟨id, fun _ => ErrorCounts.bounded_zero⟩

theorem State.takePortStatus_preserves (s : State) (index : Nat) : s.Preserves (s.takePortStatus index).1 := by
  unfold State.takePortStatus
  split
  · exact State.clearErrors_preserves s _
  · exact .refl s

theorem takePortResetRequest_preserves (index : Nat) (s : State) : s.Preserves (takePortResetRequest index s).1 := by
  unfold takePortResetRequest
  split <;> exact .refl s

theorem State.takeJournalAck_preserves (s : State) (sequence : Nat) : s.Preserves (s.takeJournalAck sequence).1 := by
  have marked (ack : Option Nat) : s.Preserves { s with journal := { s.journal with ack := ack } } :=
    { journal := fun kept => kept }
  exact (marked _).trans (State.judgeFill_preserves _)

theorem State.setShadow_preserves {s : State} (b : Bank) (settled : s.plan.swapPending = none) :
    s.Preserves (s.setShadow b) := by
  have swap : (s.plan.setShadow b).swapPending = none := by rw [← settled]; unfold Plan.setShadow; split <;> rfl
  have index : (s.plan.setShadow b).index = s.plan.index := by unfold Plan.setShadow; split <;> rfl
  refine State.setPlan_preserves (fun valid => ⟨?_, fun e pending => ?_⟩) (fun some => ?_)
  · rw [Plan.activeBank_setShadow, index]; exact valid.1
  · rw [swap] at pending; exact nomatch pending
  · rw [swap] at some; exact nomatch some

theorem State.planEdit_preserves {s : State} {p : Port} {fields : List Byte} {edit : State → State × Reply}
    (edited : s.plan.swapPending = none → s.Preserves (edit s).1) : s.Preserves (s.planEdit p fields edit).1 := by
  unfold State.planEdit
  split
  · exact .refl s
  · split
    · exact .refl s
    · next settled => exact edited (by simpa using settled)

theorem State.takePhaseAppend_preserves {s : State} (r : RawPhase) (settled : s.plan.swapPending = none) :
    s.Preserves (s.takePhaseAppend r).1 := by
  unfold State.takePhaseAppend
  split
  · exact .refl s
  · split
    · exact .refl s
    · exact State.setShadow_preserves _ settled

theorem State.takePhaseReplace_preserves {s : State} (index : Nat) (r : RawPhase) (settled : s.plan.swapPending = none) :
    s.Preserves (s.takePhaseReplace index r).1 := by
  unfold State.takePhaseReplace
  split
  · exact .refl s
  · split
    · exact .refl s
    · exact State.setShadow_preserves _ settled

theorem State.takeLadderPut_preserves {s : State} (count : Nat) (slots : List RawSegment)
    (settled : s.plan.swapPending = none) : s.Preserves (s.takeLadderPut count slots).1 := by
  unfold State.takeLadderPut
  split
  · exact .refl s
  · exact State.setShadow_preserves _ settled

theorem State.takeCommit_preserves (s : State) (entry : Nat) : s.Preserves (s.takeCommit entry).1 := by
  unfold State.takeCommit
  split
  · exact .refl s
  · next valid =>
    split
    · next frame =>
      refine State.setPlan_preserves (fun v => ⟨v.1, ?_⟩) (fun _ => .inr frame)
      rintro _ ⟨⟩
      exact valid
    · exact (State.swapBanks_preserves fun _ => valid).trans (State.reschedule_preserves _)

theorem State.takePlanRead_preserves (s : State) (selector item : Nat) : s.Preserves (s.takePlanRead selector item).1 := by
  unfold State.takePlanRead
  split
  · exact .refl s
  · split <;> exact .refl s

theorem State.takeSeqHold_preserves (s : State) : s.Preserves s.takeSeqHold.1 :=
  State.setSched_preserves (fun _ => rfl) (fun _ _ => rfl)

theorem State.startRunning_preserves (s : State) : s.Preserves s.startRunning := by
  have anchored : s.Preserves { s with sched := { s.sched.setAnchor (s.now + Config.startDelay) .start with
      run := .running } } := State.setSched_preserves id (fun _ => id)
  exact anchored.trans (State.modFrame_preserves fun _ => ⟨rfl, fun _ => rfl⟩)

theorem State.resume_preserves (s : State) : s.Preserves s.resume := by
  have entered (t : State) : t.Preserves (if t.afterLimitMet then t.enterPhase t.plan.successorIndex else t) :=
    .ite (fun _ => State.enterPhase_successor_preserves t) (fun _ => .refl t)
  exact (((State.startRunning_preserves s).trans (State.askReading_preserves _)).trans (entered _)).trans
    (State.reschedule_preserves _)

theorem State.takeSeqResume_preserves (s : State) : s.Preserves s.takeSeqResume.1 := by
  unfold State.takeSeqResume
  split
  · exact .refl s
  · exact State.resume_preserves s

theorem State.takeForceFrame_preserves (s : State) : s.Preserves s.takeForceFrame.1 := by
  unfold State.takeForceFrame
  split
  · exact .refl s
  · split
    · exact .refl s
    · next none =>
      split
      · exact .refl s
      · exact State.openFrame_preserves _ _ _ (by simpa using none)

theorem State.changeHeads_preserves {f : Head → State → State} (step : ∀ (h : Head) (s : State), s.Preserves (f h s))
    (s : State) (g : HeadSet) : s.Preserves (s.changeHeads g f) :=
  .forHeads (fun h t => .ite (fun _ => step h t) (fun _ => .refl t)) s

theorem State.takeHeadReadmit_preserves (s : State) (index : Nat) : s.Preserves (s.takeHeadReadmit index).1 := by
  unfold State.takeHeadReadmit
  split
  · exact .refl s
  · exact State.changeHeads_preserves (fun h t => State.readmit_preserves t h) s _

theorem State.takeRampRead_preserves (s : State) (index : Nat) : s.Preserves (s.takeRampRead index).1 := by
  unfold State.takeRampRead
  split <;> exact .refl s

theorem State.takeRampReseed_preserves (s : State) (index : Nat) : s.Preserves (s.takeRampReseed index).1 := by
  unfold State.takeRampReseed
  split
  · exact .refl s
  · have reseeded (h : Head) (t : State) : t.Preserves (t.modRamp h RampRecord.reseeded) :=
      State.modRamp_preserves fun _ => by simp [RampRecord.reseeded]
    exact State.changeHeads_preserves reseeded s _

/-! ### Settings -/

theorem State.setSettings_preserves {s : State} {st : Settings} (limit : st.correctionLimit = s.settings.correctionLimit) :
    s.Preserves { s with settings := st } where
  corrections kept := by simpa only [State.CorrectionsBounded, limit] using kept

theorem Settings.store_correctionLimit (st : Settings) (v : Int) {x : Setting} (h : x ≠ .correctionLimit) :
    (st.store v x).correctionLimit = st.correctionLimit := by
  cases x <;> first | rfl | exact absurd rfl h

@[simp] theorem State.clampCorrections_ramps (s : State) (h : Head) : s.clampCorrections.ramps.get h =
    { s.ramps.get h with
      correction :=
        clampInt (-(s.settings.correctionLimit : Int)) s.settings.correctionLimit (s.ramps.get h).correction } := by
  cases h <;> simp [State.clampCorrections, forHeads]

/-- The clamping of the corrections changes the ramp records alone. -/
theorem State.clampCorrections_eq (s : State) :
    s.clampCorrections = { s with ramps := s.clampCorrections.ramps } := rfl

/-- Records within a limit of at most 384 that are stored with it keep every relation. -/
theorem State.setLimitedRamps_preserves {s : State} {st : Settings} {r : Four RampRecord}
    (limit : st.correctionLimit ≤ 384)
    (bounded : ∀ h, -(st.correctionLimit : Int) ≤ (r.get h).correction ∧ (r.get h).correction ≤ st.correctionLimit) :
    s.Preserves { s with settings := st, ramps := r } where
  corrections _ := ⟨limit, bounded⟩

theorem State.writeEffect_preserves (s : State) {x : Setting} (h : x ≠ .correctionLimit) :
    s.Preserves (s.writeEffect x) := by
  unfold State.writeEffect
  split
  case h_1 => exact State.setMeter_preserves s _
  case h_2 => exact absurd rfl h
  case h_3 => exact (State.judgeFloor_judgeTier_preserves s).trans (State.finish_preserves _ _)
  case h_4 => exact State.judgeFill_preserves s
  case h_5 => exact State.judgeThreshold_preserves s _
  case h_6 => exact (State.judgeMisses_preserves s _).trans (State.finish_preserves _ _)
  case h_7 | h_8 => exact State.reschedule_preserves s
  case h_9 =>
    refine State.modTrigger_preserves fun _ quiet => ?_
    obtain ⟨asserted, bulb, pulse⟩ := quiet
    simp [Trigger.followPolarity, Trigger.Quiet, asserted, bulb, pulse]
  all_goals exact .refl s

/-- A write of the correction limit stores a limit of at most 384 and clamps every correction to it. -/
theorem State.writeCorrectionLimit_preserves (s : State) (value : BitVec 32) :
    s.Preserves ({ s with settings := s.settings.store (Setting.correctionLimit.rule.settle value).1 .correctionLimit }
      : State).clampCorrections := by
  have limit : (Setting.correctionLimit.rule.settle value).1.toNat ≤ 384 := by
    simp only [Setting.rule, ValueRule.settle, fitNat, clampNat]
    (repeat' split) <;> omega
  rw [State.clampCorrections_eq]
  refine State.setLimitedRamps_preserves limit fun h => ?_
  rw [State.clampCorrections_ramps]
  exact clampInt_bounds _ (by omega)

theorem State.takeConfigWrite_preserves (s : State) (item index : Byte) (value : BitVec 32) :
    s.Preserves (s.takeConfigWrite item index value).1 := by
  unfold State.takeConfigWrite
  split
  · exact .refl s
  · next x _ =>
    by_cases limit : x = .correctionLimit
    · subst limit
      exact State.writeCorrectionLimit_preserves s value
    · exact (State.setSettings_preserves (Settings.store_correctionLimit _ _ limit)).trans
        (State.writeEffect_preserves _ limit)

theorem State.takeConfigRead_preserves (s : State) (item index : Byte) : s.Preserves (s.takeConfigRead item index).1 := by
  unfold State.takeConfigRead
  split <;> exact .refl s

/-! ### Shared words and flags -/

theorem State.setWindows_preserves (s : State) (w : Six (Eight (BitVec 16))) : s.Preserves { s with windows := w } := {}

theorem State.setFlags_preserves (s : State) (v : Eight (Option Port)) : s.Preserves { s with flags := v } := {}

theorem State.takeBulletinWrite_preserves (s : State) (p : Port) (index : Byte) (value : BitVec 16) :
    s.Preserves (s.takeBulletinWrite p index value).1 := by
  unfold State.takeBulletinWrite
  split
  · exact .refl s
  · next i _ =>
    have written : s.Preserves (s.writeWord p i value) := State.setWindows_preserves s _
    refine written.trans ?_
    unfold State.raiseBulletin
    split
    case h_1 | h_2 => exact State.raiseAt_preserves _ _ _
    all_goals exact State.raiseBoth_preserves _ _

theorem State.takeBulletinRead_preserves (s : State) (window : Nat) : s.Preserves (s.takeBulletinRead window).1 := by
  unfold State.takeBulletinRead
  split <;> exact .refl s

theorem State.takeFlagSet_preserves (s : State) (p : Port) (index : Byte) : s.Preserves (s.takeFlagSet p index).1 := by
  unfold State.takeFlagSet
  split
  · exact .refl s
  · split
    · exact State.setFlags_preserves s _
    · exact .refl s

theorem State.takeFlagClear_preserves (s : State) (p : Port) (index : Byte) :
    s.Preserves (s.takeFlagClear p index).1 := by
  unfold State.takeFlagClear
  split
  · exact .refl s
  · split
    · exact .refl s
    · split
      · exact State.setFlags_preserves s _
      · exact .refl s

/-! ### The timers of heads and frames -/

theorem State.failMember_preserves (s : State) (h : Head) (o : EntryOutcome) : s.Preserves (s.failMember h o) :=
  (((State.decideEntry_preserves s h o).trans (State.countMiss_preserves _ h)).trans
    (State.railOff_preserves _ h)).trans (State.finish_preserves _ _)

theorem State.leaveClosing_preserves (s : State) (h : Head) : s.Preserves (s.leaveClosing h) := by
  refine .ite (fun _ => State.modHead_preserves (fun _ => ?_) ?_ ?_) (fun _ => State.railOff_preserves s h)
  · simp [HeadSeq.TimersPlaced, HeadSeq.enter]
  · simp [HeadSeq.enter]
  · simp [HeadState.Awake, HeadSeq.enter]

theorem State.exposureEnd_preserves (s : State) (h : Head) : s.Preserves (s.exposureEnd h) := by
  refine .ite (fun exposing => State.modHead_preserves (fun _ => ?_) ?_ (fun _ => .inl ?_)) (fun _ => .refl s)
  · simp [HeadSeq.TimersPlaced, HeadSeq.enter]
  · simp [HeadSeq.enter]
  · simp [HeadState.Awake, exposing]

theorem State.completeReading_preserves (s : State) : s.Preserves s.completeReading := by
  have judged (t : State) (r : Reading) (previous : Option ReadingState) :
      s.Preserves { s with meter := s.meter.complete r } → t = { s with meter := s.meter.complete r } →
      s.Preserves (t.judgeLight r previous).1 := by
    rintro completed rfl
    exact completed.trans (State.judgeLight_preserves _ r previous)
  have done := judged _ s.completedReading (s.meter.latest.map (·.state)) (State.setMeter_preserves s _) rfl
  exact .ite (fun _ => done.trans (State.reschedule_preserves _)) (fun _ => done)

end Sys2Proof.Machine

namespace Sys2Proof.Machine

/-! ### Every command -/

theorem State.Goes.request {s : State} (k : Kind) (p : Port) (tag : Byte) {take : State → State × Reply}
    (taken : ∀ t : State, t.Preserves (take t).1) : s.Goes (.next (s.request k p tag take)) :=
  (s.request_preserves k p tag taken).goes

theorem State.Goes.whileRunning {s : State} {f : State → State} (effect : ∀ t : State, t.Preserves (f t)) :
    s.Goes (.next (s.whileRunning f)) :=
  (s.whileRunning_preserves effect).goes

/-- An event whose effect is conditional on a timer or a state of the meter. -/
theorem State.Goes.whileRunning_ite {s : State} {c : State → Prop} [∀ t, Decidable (c t)] {f : State → State}
    (effect : ∀ t : State, t.Preserves (f t)) : s.Goes (.next (s.whileRunning (fun t => if c t then f t else t))) :=
  .whileRunning fun t => .ite (fun _ => effect t) (fun _ => .refl t)

theorem State.countLineError_preserves (s : State) (p : Port) (e : LineError) :
    s.Preserves ((s.rxToHunt p).countError p e) :=
  (s.rxToHunt_preserves p).trans (State.countError_preserves _ p e)

theorem execLengthError_goes (p : Port) (s : State) : s.Goes (execLengthError p s) :=
  .whileRunning fun t => t.countLineError_preserves p .length

theorem execCheckError_goes (p : Port) (s : State) : s.Goes (execCheckError p s) :=
  .whileRunning fun t => t.countLineError_preserves p .check

theorem execUnknownKind_goes (p : Port) (tag kind : Byte) (s : State) : s.Goes (execUnknownKind p tag kind s) := by
  refine .whileRunning fun t => .ite (fun _ => .refl t) fun _ => .ite (fun _ => ?_) fun _ => ?_
  · exact (t.rxToHunt_preserves p).trans (State.enqueue_preserves _ p _)
  · exact t.countLineError_preserves p .overrun

theorem State.takeEventsRead_preserves (s : State) (st : Station) : s.Preserves (s.takeEventsRead st).1 := by
  dsimp only [State.takeEventsRead]
  exact s.modStation_preserves st _

theorem State.takeEventsEnable_preserves (s : State) (st : Station) (v : BitVec 16) :
    s.Preserves (s.takeEventsEnable st v).1 := by
  dsimp only [State.takeEventsEnable]
  exact s.modStation_preserves st _

theorem execPeriodTimerExpiry_goes (s : State) : s.Goes (execPeriodTimerExpiry s) :=
  .whileRunning_ite fun t => (t.setMeter_preserves _).trans (State.askReading_preserves _)

theorem execMeasurementTimerExpiry_goes (shown : List Nat) (s : State) :
    s.Goes (execMeasurementTimerExpiry shown s) := by
  refine .whileRunning_ite fun t => ?_
  have started : t.Preserves { t with
      bsense := t.bsense.present shown
      energy := { t.energy with measureTimer := some Config.measurementMs } } := { tier := id }
  exact (started.trans (State.measure_preserves _)).trans (State.finish_preserves _ _)

theorem execBulbTimerExpiry_goes (h : Head) (s : State) : s.Goes (execBulbTimerExpiry h s) := by
  refine .whileRunning_ite fun t => ?_
  have released : t.Preserves (if (t.firing h).map (·.2) = some .bulb then t.release h else t) :=
    .ite (fun _ => t.release_preserves h) fun _ => .refl t
  exact (released.trans (State.stopBulb_preserves _ h)).trans (State.exposureEnd_preserves _ h)

theorem execMainSupplyLoss_goes (s : State) : s.Goes (execMainSupplyLoss s) :=
  (s.goDark_preserves.trans (State.setSupply_preserves _ _)).goes

theorem execNrstAssert_goes (s : State) : s.Goes (execNrstAssert s) :=
  (s.goDark_preserves.trans (State.setSupply_preserves _ _)).goes

/-- Every command but CHARACTER_RECEIVED, which may run another one. -/
theorem exec_goes_of_ne_characterReceived {i : Instr} (other : ∀ p char, i ≠ .characterReceived p char) (s : State) :
    s.Goes (exec i s) := by
  cases i with
  | hello p tag => exact .request _ _ _ (headTake_preserves fun h t => t.takeHello_preserves h)
  | ready p tag q => exact .request _ _ _ (headTake_preserves fun h t => t.takeReady_preserves h _)
  | result p tag q l f b => exact .request _ _ _ (headTake_preserves fun h t => t.takeResult_preserves h _ _ _ _)
  | statusRead p tag => exact .request _ _ _ (stationTake_preserves fun _ t => .refl t)
  | eventsRead p tag => exact .request _ _ _ (stationTake_preserves fun st t => t.takeEventsRead_preserves st)
  | eventsEnable p tag v => exact .request _ _ _ (stationTake_preserves fun st t => t.takeEventsEnable_preserves st v)
  | portStatus p tag i => exact .request _ _ _ fun t => t.takePortStatus_preserves _
  | portReset p tag i => exact .request _ _ _ (takePortResetRequest_preserves _)
  | journalRead p tag q n => exact .request _ _ _ fun t => .refl t
  | journalAck p tag q => exact .request _ _ _ fun t => t.takeJournalAck_preserves _
  | clockSet p tag v => exact .request _ _ _ fun t => t.takeClockSet_preserves _
  | clockRead p tag => exact .request _ _ _ fun t => .refl t
  | configWrite p tag i x v => exact .request _ _ _ fun t => t.takeConfigWrite_preserves i x v
  | configRead p tag i x => exact .request _ _ _ fun t => t.takeConfigRead_preserves i x
  | planClear p tag => exact .request _ _ _ fun t => t.planEdit_preserves fun settled => t.setShadow_preserves _ settled
  | phaseAppend p tag r =>
    exact .request _ _ _ fun t => t.planEdit_preserves fun settled => State.takePhaseAppend_preserves r settled
  | phaseReplace p tag i r =>
    exact .request _ _ _ fun t => t.planEdit_preserves fun settled => State.takePhaseReplace_preserves _ r settled
  | ladderPut p tag n l =>
    exact .request _ _ _ fun t => t.planEdit_preserves fun settled => State.takeLadderPut_preserves _ l settled
  | commit p tag i => exact .request _ _ _ fun t => t.planEdit_preserves fun _ => t.takeCommit_preserves _
  | planRead p tag b i => exact .request _ _ _ fun t => t.takePlanRead_preserves _ _
  | planCopy p tag => exact .request _ _ _ fun t => t.planEdit_preserves fun settled => t.setShadow_preserves _ settled
  | seqHold p tag => exact .request _ _ _ fun t => t.takeSeqHold_preserves
  | seqResume p tag => exact .request _ _ _ fun t => t.takeSeqResume_preserves
  | forceFrame p tag => exact .request _ _ _ fun t => t.takeForceFrame_preserves
  | headReadmit p tag i => exact .request _ _ _ fun t => t.takeHeadReadmit_preserves _
  | rampRead p tag i => exact .request _ _ _ fun t => t.takeRampRead_preserves _
  | rampReseed p tag i => exact .request _ _ _ fun t => t.takeRampReseed_preserves _
  | bulletinWrite p tag i v => exact .request _ _ _ fun t => t.takeBulletinWrite_preserves p i v
  | bulletinRead p tag w => exact .request _ _ _ fun t => t.takeBulletinRead_preserves _
  | flagSet p tag i => exact .request _ _ _ fun t => t.takeFlagSet_preserves p i
  | flagClear p tag i => exact .request _ _ _ fun t => t.takeFlagClear_preserves p i
  | flagRead p tag => exact .request _ _ _ fun t => .refl t
  | unknownKind p tag k => exact execUnknownKind_goes p tag k s
  | checkError p => exact execCheckError_goes p s
  | lengthError p => exact execLengthError_goes p s
  | overrun p => exact .whileRunning fun t => .ite (fun _ => .refl t) fun _ => t.countLineError_preserves p .overrun
  | framingError p => exact .whileRunning fun t => t.countLineError_preserves p .framing
  | interByteTimerExpiry p => exact .whileRunning_ite fun t => t.countLineError_preserves p .truncated
  | messageSent p => exact .whileRunning fun t => t.messageSent_preserves p
  | pulseEdge e => exact .whileRunning fun t => t.setMeter_preserves _
  | settleElapsed => exact .whileRunning_ite fun t => t.setMeter_preserves _
  | readingCompletion => exact .whileRunning_ite fun t => t.completeReading_preserves
  | periodTimerExpiry => exact execPeriodTimerExpiry_goes s
  | secondsCountAdvance =>
    exact (State.Preserves.ite (fun _ => s.advanceRunning_preserves) fun _ => s.advanceStopped_preserves).goes
  | helloTimerExpiry h => exact .whileRunning_ite fun t => t.failMember_preserves h _
  | readyTimerExpiry h => exact .whileRunning_ite fun t => t.failMember_preserves h _
  | resultTimerExpiry h => exact .whileRunning_ite fun t => t.failMember_preserves h _
  | graceTimerExpiry h =>
    exact .whileRunning_ite fun t => ((t.applyStorageMark_preserves h).trans (State.leaveClosing_preserves _ h)).trans
      (State.finish_preserves _ _)
  | standbyTimerExpiry h => exact .whileRunning_ite fun t => (t.railOff_preserves h).trans (State.finish_preserves _ _)
  | armTimerExpiry => exact .whileRunning_ite fun t => t.abandon_preserves.trans (State.finish_preserves _ _)
  | bulbTimerExpiry h => exact execBulbTimerExpiry_goes h s
  | pulseWidthElapsed h => exact .whileRunning_ite fun t => t.release_preserves h
  | measurementTimerExpiry shown => exact execMeasurementTimerExpiry_goes shown s
  | mainSupplyLoss => exact execMainSupplyLoss_goes s
  | nrstAssert => exact execNrstAssert_goes s
  | coldStart shown => exact (s.coldStarted_preserves shown).goes
  | warmStart shown => exact (s.warmStarted_preserves shown).goes
  | characterReceived p char => exact absurd rfl (other p char)

/-- A command that a body spells means what it means in the queue; a body spells no other one. -/
theorem takeCommand_eq (c : Instr) (s : State) : takeCommand c s = exec c s ∨ takeCommand c s = .next s := by
  cases c with
  | checkError | overrun | framingError | interByteTimerExpiry | messageSent | pulseEdge | settleElapsed
  | readingCompletion | periodTimerExpiry | secondsCountAdvance | helloTimerExpiry | readyTimerExpiry | resultTimerExpiry
  | graceTimerExpiry | standbyTimerExpiry | armTimerExpiry | bulbTimerExpiry | pulseWidthElapsed | measurementTimerExpiry
  | mainSupplyLoss | nrstAssert | coldStart | warmStart | characterReceived => exact .inr rfl
  | _ => exact .inl rfl

theorem takeCommand_goes (c : Instr) (s : State) : s.Goes (takeCommand c s) := by
  by_cases other : ∀ p char, c ≠ .characterReceived p char
  · obtain same | same := takeCommand_eq c s
    · exact same ▸ exec_goes_of_ne_characterReceived other s
    · exact same ▸ (State.Preserves.refl s).goes
  · push Not at other
    obtain ⟨p, char, rfl⟩ := other
    exact (State.Preserves.refl s).goes

theorem execCharacterReceived_goes (p : Port) (char : Byte) (s : State) : s.Goes (execCharacterReceived p char s) := by
  unfold execCharacterReceived
  split
  · unfold State.receive
    split
    · exact (State.Preserves.ite (fun _ => s.assemble_preserves p _) fun _ => .refl s).goes
    · unfold State.receiveLen
      split
      · exact (s.assemble_preserves p _).goes
      · exact execLengthError_goes p s
    · exact (s.assemble_preserves p _).goes
    · unfold State.complete
      split
      · exact takeCommand_goes _ s
      · exact execCheckError_goes p s
  · exact (State.Preserves.refl s).goes

theorem exec_goes (i : Instr) (s : State) : s.Goes (exec i s) := by
  by_cases other : ∀ p char, i ≠ .characterReceived p char
  · exact exec_goes_of_ne_characterReceived other s
  · push Not at other
    obtain ⟨p, char, rfl⟩ := other
    exact execCharacterReceived_goes p char s

/-! ### Every step -/

theorem State.tick_preserves (s : State) : s.Preserves s.tick :=
  .ite (fun _ => (s.setTime_preserves _).trans (State.elapse_preserves _ 1)) fun _ => s.setTime_preserves _

theorem idle_goes (s : State) : s.Goes (idle s) := by
  unfold idle
  split
  · exact exec_goes _ s
  · exact s.tick_preserves.goes

/-- A step takes a command from the queue, or none; the relations speak of neither. -/
theorem step_goes (s : State) : ∃ rest, ({ s with pending := rest } : State).Goes (step s) := by
  unfold step
  split
  · next rest _ => exact ⟨rest, exec_goes _ _⟩
  · exact ⟨s.pending, idle_goes s⟩

theorem step_next_preserves {s t : State} (stepped : step s = .next t) :
    ∃ rest, ({ s with pending := rest } : State).Preserves t := by
  obtain ⟨rest, u, next, preserves⟩ := step_goes s
  rw [stepped] at next
  cases next
  exact ⟨rest, preserves⟩

end Sys2Proof.Machine

namespace Sys2Proof.Proofs

open Sys2Proof.Machine

/-- Settles O56. -/
theorem stepKeepsPortsBounded : Obligations.StepKeepsPortsBounded := by
  intro s t stepped
  obtain ⟨rest, kept⟩ := step_next_preserves stepped
  exact ⟨kept.queues, kept.errors⟩

/-- Settles O57. -/
theorem stepKeepsHeadsInOrder : Obligations.StepKeepsHeadsInOrder := by
  refine ⟨fun s t stepped => ?_, fun s t stepped => ?_⟩
  all_goals obtain ⟨rest, kept⟩ := step_next_preserves stepped
  · exact ⟨kept.timers, kept.triggers⟩
  · exact kept.awake

/-- Settles O58. -/
theorem stepKeepsTierAndCorrections : Obligations.StepKeepsTierAndCorrections := by
  refine ⟨fun s t stepped => ?_, fun s t stepped => ?_⟩
  all_goals obtain ⟨rest, kept⟩ := step_next_preserves stepped
  · exact kept.tier
  · exact kept.corrections

/-- Settles O59. -/
theorem stepKeepsTheJournal : Obligations.StepKeepsTheJournal := by
  intro s t stepped
  obtain ⟨rest, kept⟩ := step_next_preserves stepped
  exact kept.journal

/-- Settles O60. -/
theorem stepKeepsThePlanAndSchedule : Obligations.StepKeepsThePlanAndSchedule := by
  intro s t stepped
  obtain ⟨rest, kept⟩ := step_next_preserves stepped
  exact ⟨kept.plan, kept.swap, kept.due⟩

/-- Settles O3: no command is refused, and none faults. -/
theorem everyCommandGoesOn : Obligations.EveryCommandGoesOn := by
  intro i s
  obtain ⟨t, next, kept⟩ := exec_goes i s
  exact ⟨t, next, kept.pending⟩

/-- Settles O55. -/
theorem resetIsGood : Obligations.ResetIsGood := State.reset_good

end Sys2Proof.Proofs

/-! ## Messages and the line -/

namespace Sys2Proof.Machine

theorem commandOfBody_of_request {p : Port} {k : Kind} {tag : Byte} {fields : List Byte} {i : Instr}
    (read : requestOfFields k p tag fields = some i) : commandOfBody p (k.code :: tag :: fields) = i := by
  simp [commandOfBody, Laws.BodyFits.kindOfCode_code, read]

theorem commandOfBody_of_unknown {p : Port} {tag kind : Byte} {fields : List Byte} (unknown : kindOfCode kind = none) :
    commandOfBody p (kind :: tag :: fields) = .unknownKind p tag kind := by
  simp [commandOfBody, unknown]

/-- A command is a request of a kind: its body carries the kind's code, its fields spell it, and it is taken as a request of
that kind. -/
def IsRequest (i : Instr) (p : Port) : Prop :=
  ∃ (k : Kind) (tag : Byte) (fields : List Byte) (take : State → State × Reply),
    bodyOfCommand i = some (k.code :: tag :: fields) ∧ requestOfFields k p tag fields = some i
      ∧ ∀ s : State, exec i s = .next (s.request k p tag take)

/-- A command with a port of completion is a request of a kind or an UNKNOWN_KIND. -/
theorem isRequest_or_unknown {i : Instr} {p : Port} (formed : i.wellFormed = true) (port : requestPort i = some p) :
    IsRequest i p ∨ ∃ tag kind, i = .unknownKind p tag kind ∧ kindOfCode kind = none := by
  cases i with
  | unknownKind q tag kind =>
    cases port
    exact .inr ⟨tag, kind, rfl, by simpa [Instr.wellFormed] using formed⟩
  | phaseAppend q tag r =>
    cases port
    exact .inl ⟨.phaseAppend, tag, _, _, rfl, by simp [requestOfFields, rawPhase_roundtrip], fun _ => rfl⟩
  | phaseReplace q tag index r =>
    cases port
    exact .inl ⟨.phaseReplace, tag, _, _, rfl, by simp [requestOfFields, rawPhase_roundtrip], fun _ => rfl⟩
  | ladderPut q tag count slots =>
    cases port
    have eight : slots.length = 8 := by simpa [Instr.wellFormed] using formed
    exact .inl ⟨.ladderPut, tag, _, _, rfl,
      by simp [requestOfFields, rawSegments_roundtrip, Laws.BodyFits.bytesOfRawSegments_length, eight], fun _ => rfl⟩
  | ready | result | eventsEnable | journalRead | journalAck | clockSet | configWrite | bulletinWrite =>
    cases port
    exact .inl ⟨_, _, _, _, rfl, by simp [requestOfFields, toBytes2, toBytes4, ofBytes2_extract, ofBytes4_extract],
      fun _ => rfl⟩
  | hello | statusRead | eventsRead | portStatus | portReset | clockRead | configRead | planClear | commit | planRead
  | planCopy | seqHold | seqResume | forceFrame | headReadmit | rampRead | rampReseed | bulletinRead | flagSet | flagClear
  | flagRead =>
    cases port
    exact .inl ⟨_, _, _, _, rfl, rfl, fun _ => rfl⟩
  | _ => exact nomatch port

/-! ### The receive assembly -/

theorem State.assemble_assemble (s : State) (p : Port) (a b : Assembly) : (s.assemble p a).assemble p b = s.assemble p b := by
  simp [State.assemble, State.modPort]

@[simp] theorem State.assemble_rx (s : State) (p : Port) (a : Assembly) : ((s.assemble p a).ports.get p).rx = a := by
  simp [State.assemble]

@[simp] theorem State.assemble_runs (s : State) (p : Port) (a : Assembly) : (s.assemble p a).runs = s.runs := rfl

section

variable {s : State} {p : Port}

theorem exec_characterReceived (runs : s.runs = true) (c : Byte) : exec (.characterReceived p c) s = s.receive p c :=
  if_pos runs

theorem State.receive_hunt (rx : (s.ports.get p).rx = .hunt) (c : Byte) :
    s.receive p c = .next (if c = leadByte then s.assemble p .awaitLen else s) := by
  simp only [State.receive, rx]

theorem State.receive_awaitLen (rx : (s.ports.get p).rx = .awaitLen) (c : Byte) : s.receive p c = s.receiveLen p c := by
  simp only [State.receive, rx]

theorem State.receive_body {len : Nat} {got : List Byte} (rx : (s.ports.get p).rx = .body len got) (c : Byte) :
    s.receive p c = .next (s.assemble p (nextBody len (got ++ [c]))) := by
  simp only [State.receive, rx]

theorem State.receive_awaitChk {got : List Byte} (rx : (s.ports.get p).rx = .awaitChk got) (c : Byte) :
    s.receive p c = s.complete p got c := by
  simp only [State.receive, rx]

theorem feed_cons_of_next {t : State} {c : Byte} (h : exec (.characterReceived p c) s = .next t) (rest : List Byte) :
    feed p (c :: rest) s = feed p rest t := by
  simp only [feed, h]

theorem feed_singleton {c : Byte} {u : State} (h : exec (.characterReceived p c) s = .next u) :
    feed p [c] s = exec (.characterReceived p c) s := by
  rw [feed_cons_of_next h, h, feed]

end

/-- A command reaches a next state, so that one last character is the whole outcome. -/
theorem feed_last (p : Port) (c : Byte) (s : State) : feed p [c] s = exec (.characterReceived p c) s := by
  obtain ⟨t, next, _⟩ := exec_goes (.characterReceived p c) s
  exact feed_singleton next

/-- The characters of a body, one after another. -/
theorem feed_body {p : Port} {len : Nat} (rest : List Byte) :
    ∀ (todo : List Byte) {got : List Byte} {s : State}, s.runs = true → todo ≠ [] → got.length + todo.length = len →
      feed p (todo ++ rest) (s.assemble p (.body len got)) = feed p rest (s.assemble p (.awaitChk (got ++ todo))) := by
  intro todo
  induction todo with
  | nil => exact fun _ some _ => absurd rfl some
  | cons c more ih =>
    intro got s runs _ total
    rw [List.length_cons] at total
    have taken : exec (.characterReceived p c) (s.assemble p (.body len got))
        = .next (s.assemble p (nextBody len (got ++ [c]))) := by
      rw [exec_characterReceived (s := s.assemble p _) runs, State.receive_body (s.assemble_rx p _), State.assemble_assemble]
    rw [List.cons_append, feed_cons_of_next taken]
    cases more with
    | nil => simp_all [nextBody]
    | cons d rest' =>
      have unfinished : nextBody len (got ++ [c]) = .body len (got ++ [c]) := by
        have short : (got ++ [c]).length < len := by simp at total ⊢; omega
        exact if_neg (by omega)
      rw [unfinished, ih runs (by simp) (by simp at total ⊢; omega), List.append_assoc, List.singleton_append]

theorem foldl_add_eq (body : List Byte) (a : Byte) :
    body.foldl (fun x y => x + y) a = body.foldl (fun x y => x + y) 0#8 + a := by
  induction body generalizing a with
  | nil => simp
  | cons c rest ih => rw [List.foldl_cons, List.foldl_cons, ih (a + c), ih (0#8 + c)]; ac_rfl

theorem frameSum_eq (body : List Byte) (chk : Byte) :
    frameSum body chk = body.foldl (fun a b => a + b) 0#8 + BitVec.ofNat 8 body.length + chk := by
  rw [frameSum, foldl_add_eq]
  ac_rfl

/-- A command that stands for a message means the same when its message completes. -/
theorem takeCommand_of_body {i : Instr} (body : (bodyOfCommand i).isSome = true) (s : State) :
    takeCommand i s = exec i s := by
  cases i with
  | checkError | lengthError | overrun | framingError | interByteTimerExpiry | messageSent | pulseEdge | settleElapsed
  | readingCompletion | periodTimerExpiry | secondsCountAdvance | helloTimerExpiry | readyTimerExpiry | resultTimerExpiry
  | graceTimerExpiry | standbyTimerExpiry | armTimerExpiry | bulbTimerExpiry | pulseWidthElapsed | measurementTimerExpiry
  | mainSupplyLoss | nrstAssert | coldStart | warmStart | characterReceived => exact nomatch body
  | _ => rfl

theorem requestOfFields_body {k : Kind} {p : Port} {tag : Byte} {fields : List Byte} {i : Instr}
    (read : requestOfFields k p tag fields = some i) : (bodyOfCommand i).isSome = true := by
  cases k <;> simp only [requestOfFields] at read
  all_goals
    repeat' split at read
    all_goals cases read <;> rfl

/-- The command that a body spells is one that a message can stand for. -/
theorem takeCommand_commandOfBody (p : Port) (body : List Byte) (s : State) :
    takeCommand (commandOfBody p body) s = exec (commandOfBody p body) s := by
  unfold commandOfBody
  split
  · split
    · split
      · next read => exact takeCommand_of_body (requestOfFields_body read) s
      · rfl
    · rfl
  · rfl

/-! ### Receive errors -/

theorem ErrorCounts.bump_eq_self_iff (e : ErrorCounts) (k : LineError) : e.bump k = e ↔ e.count k = 255 := by
  obtain ⟨a, b, c, d, o⟩ := e
  cases k <;> simp [ErrorCounts.bump, ErrorCounts.count, saturate, Config.maxErrors] <;> omega

@[simp] theorem State.raiseBoth_stations (s : State) (e : Event) (st : Station) : (s.raiseBoth e).stations.get st =
    { s.stations.get st with flags := (s.stations.get st).flags ||| e.mask } := by
  cases st <;> rfl

/-- The port of a receive error after it: HUNT, the count of the kind raised, and the marker where it is judged. -/
def PortState.afterError (x : PortState) (k : LineError) (raised : Bool) : PortState :=
  { x with rx := .hunt, interByte := none, errors := x.errors.bump k, thresholdRaised := raised }

/-- The threshold marker becomes RAISED with one more error of a kind. -/
def PortState.Crosses (x : PortState) (k : LineError) (threshold : Nat) : Prop :=
  x.errors.count k ≠ 255 ∧ x.thresholdRaised = false ∧ threshold ≤ (x.errors.bump k).total

/-- A receive error that leaves the marker as it is. -/
theorem State.countLineError_below {s : State} {p : Port} {k : LineError}
    (below : ¬ (s.ports.get p).Crosses k (s.settings.port.get p).errorThreshold) :
    (s.rxToHunt p).countError p k = s.modPort p (fun x => x.afterError k x.thresholdRaised) := by
  unfold PortState.Crosses at below
  by_cases full : (s.ports.get p).errors.count k = 255
  · have same := (ErrorCounts.bump_eq_self_iff _ _).mpr full
    simp [State.countError, State.rxToHunt_eq, State.modPort, PortState.afterError, same]
  · have moved := mt (ErrorCounts.bump_eq_self_iff _ _).mp full
    have quiet : ¬ ((s.ports.get p).thresholdRaised = false
        ∧ (s.settings.port.get p).errorThreshold ≤ ((s.ports.get p).errors.bump k).total) := fun c => below ⟨full, c⟩
    simp [State.countError, State.rxToHunt_eq, State.modPort, moved, State.judgeThreshold, quiet, PortState.afterError]

/-- A receive error that raises the marker. -/
theorem State.countLineError_crossing {s : State} {p : Port} {k : LineError}
    (crosses : (s.ports.get p).Crosses k (s.settings.port.get p).errorThreshold) :
    (s.rxToHunt p).countError p k = (s.modPort p (fun x => x.afterError k true)).raiseBoth .lineErrors := by
  obtain ⟨count, clear, reached⟩ := crosses
  have moved := mt (ErrorCounts.bump_eq_self_iff _ _).mp count
  simp [State.countError, State.rxToHunt_eq, State.modPort, moved, State.judgeThreshold, clear, reached,
    PortState.afterError]

/-! ### Messages that are turned away -/

theorem exec_overrun_of_full {s : State} {p : Port} (runs : s.runs = true) (full : s.hasPlace p = false) :
    exec (.overrun p) s = .next ((s.rxToHunt p).countError p .overrun) := by
  simp [exec, execOverrun, State.whileRunning, runs, full]

/-- A request on a port whose queue is full is an OVERRUN. -/
theorem State.request_of_full {s : State} {p : Port} (k : Kind) (tag : Byte) (take : State → State × Reply)
    (runs : s.runs = true) (full : s.hasPlace p = false) :
    s.request k p tag take = (s.rxToHunt p).countError p .overrun := by
  simp [State.request, runs, full]

/-- A request of a kind that its port may not send is answered NOT_PERMITTED. -/
theorem State.request_of_forbidden {s : State} {p : Port} {k : Kind} (tag : Byte) (take : State → State × Reply)
    (runs : s.runs = true) (place : s.hasPlace p = true) (forbidden : permitted k.group p = false) :
    s.request k p tag take = s.answer p k tag .notPermitted [] := by
  obtain ⟨h, _⟩ | ⟨_, h, _⟩ | ⟨_, _, _, answered⟩ | ⟨⟨_, _, h⟩, _⟩ := s.request_cases k p tag take
  · exact absurd runs (by simp [h])
  · exact absurd place (by simp [h])
  · exact answered
  · exact absurd forbidden (by simp [h])

theorem execUnknownKind_of_full {s : State} {p : Port} (tag : Byte) {kind : Byte} (runs : s.runs = true)
    (full : s.hasPlace p = false) (unknown : kindOfCode kind = none) :
    execUnknownKind p tag kind s = .next ((s.rxToHunt p).countError p .overrun) := by
  simp [execUnknownKind, State.whileRunning, runs, full, unknown]

theorem execUnknownKind_of_place {s : State} {p : Port} (tag : Byte) {kind : Byte} (runs : s.runs = true)
    (place : s.hasPlace p = true) (unknown : kindOfCode kind = none) :
    execUnknownKind p tag kind s = .next (s.placed p (unknownKindMessage kind tag)) := by
  have placed : (s.rxToHunt p).enqueue p (unknownKindMessage kind tag) = s.placed p (unknownKindMessage kind tag) := by
    rw [State.enqueue_of_place _ (by simpa using place)]
    simp [State.rxToHunt_eq, State.placed, State.modPort]
  simp [execUnknownKind, State.whileRunning, runs, place, unknown, placed]

end Sys2Proof.Machine

namespace Sys2Proof.Proofs

open Sys2Proof.Machine

/-- Settles O4. -/
theorem messageSpellsItsCommand : Obligations.MessageSpellsItsCommand := by
  intro i p body formed port spelled
  obtain ⟨k, tag, fields, take, body', read, _⟩ | ⟨tag, kind, rfl, unknown⟩ := isRequest_or_unknown formed port
  · cases spelled.symm.trans body'
    exact commandOfBody_of_request read
  · cases spelled
    exact commandOfBody_of_unknown unknown

/-- Settles O6. -/
theorem characterMovesTheAssembly : Obligations.CharacterMovesTheAssembly := by
  intro s p c runs
  rw [exec_characterReceived runs]
  refine ⟨fun rx lead => ?_, fun rx other => ?_, fun rx low high => ?_, fun rx outside => ?_, fun len got rx more => ?_,
    fun len got rx last => ?_⟩
  · rw [State.receive_hunt rx, if_pos (show c = leadByte from lead)]; rfl
  · rw [State.receive_hunt rx, if_neg (show c ≠ leadByte from other)]
  · rw [State.receive_awaitLen rx, State.receiveLen, if_pos ⟨low, high⟩]; rfl
  · rw [State.receive_awaitLen rx, State.receiveLen, if_neg (by omega)]; rfl
  · rw [State.receive_body rx, nextBody, if_neg (by simp; omega)]; rfl
  · rw [State.receive_body rx, nextBody, if_pos (by simp; omega)]; rfl

/-- Settles O5. -/
theorem receivedFrameRunsItsCommand : Obligations.ReceivedFrameRunsItsCommand := by
  intro s p body chk runs rx low high
  have lead : exec (.characterReceived p 0xC5#8) s = .next (s.assemble p .awaitLen) := by
    rw [exec_characterReceived runs, State.receive_hunt rx, if_pos (show (0xC5#8 : Byte) = leadByte from rfl)]
  have len : exec (.characterReceived p (BitVec.ofNat 8 body.length)) (s.assemble p .awaitLen)
      = .next (s.assemble p (.body body.length [])) := by
    have value : (BitVec.ofNat 8 body.length).toNat = body.length := by simp; omega
    rw [exec_characterReceived (s := s.assemble p _) runs, State.receive_awaitLen (s.assemble_rx p _), State.receiveLen, value, if_pos ⟨low, high⟩,
      State.assemble_assemble]
  rw [feed_cons_of_next lead, feed_cons_of_next len,
    feed_body [chk] body runs (by rintro rfl; simp at low) (by simp), feed_last,
    exec_characterReceived (s := s.assemble p _) runs,
    State.receive_awaitChk (s.assemble_rx p _), State.complete, frameSum_eq, takeCommand_commandOfBody]
  rfl

/-- Settles O7. -/
theorem lineErrorsAreCounted : Obligations.LineErrorsAreCounted := by
  intro s p i k runs kinds
  have counted : exec i s = .next ((s.rxToHunt p).countError p k) := by
    obtain ⟨rfl, rfl⟩ | ⟨rfl, rfl⟩ | ⟨rfl, rfl⟩ | ⟨rfl, rfl, timer⟩ | ⟨rfl, rfl, full⟩ := kinds
    case inr.inr.inr.inl => simp [exec, execInterByteTimerExpiry, State.whileRunning, runs, timer]
    case inr.inr.inr.inr => simp [exec, execOverrun, State.whileRunning, runs, full]
    all_goals exact congrArg _ (if_pos runs)
  refine ⟨_, counted, ?_⟩
  have least : ((s.ports.get p).errors.bump k).count k = if (s.ports.get p).errors.count k < 255
      then (s.ports.get p).errors.count k + 1 else min ((s.ports.get p).errors.count k) 255 := by
    rw [ErrorCounts.count_bump, if_pos rfl]; split <;> omega
  have others (j : LineError) (h : j ≠ k) : ((s.ports.get p).errors.bump k).count j = (s.ports.get p).errors.count j := by
    rw [ErrorCounts.count_bump, if_neg h]
  by_cases crosses : (s.ports.get p).Crosses k (s.settings.port.get p).errorThreshold
  · rw [State.countLineError_crossing crosses]
    obtain ⟨count, clear, reached⟩ := crosses
    refine ⟨rfl, fun q other => by simp [other], ?_⟩
    simp only [State.raiseBoth_keeps, State.modPort_ports, Six.get_set_self, PortState.afterError]
    refine ⟨least, others, trivial, trivial, trivial, trivial, fun _ _ _ => ⟨trivial, fun st => ?_⟩, fun quiet => ?_⟩
    · rw [State.raiseBoth_stations]; exact ⟨rfl, rfl⟩
    · rcases quiet with h | h | h
      · exact absurd h count
      · simp [clear] at h
      · omega
  · rw [State.countLineError_below crosses]
    refine ⟨rfl, fun q other => by simp [other], ?_⟩
    simp only [State.modPort_ports, Six.get_set_self, PortState.afterError]
    refine ⟨least, others, trivial, trivial, trivial, trivial, fun count clear reached => ?_, fun _ => ⟨trivial, rfl⟩⟩
    exact absurd ⟨by omega, clear, reached⟩ crosses

/-- Settles O8. -/
theorem turnedAwayMessagesChangeNothing : Obligations.TurnedAwayMessagesChangeNothing := by
  refine ⟨fun i s p formed runs port full => ?_,
    fun i s p k c tag fields formed runs port place body kind forbidden => ?_, fun s p tag kind runs place unknown => ?_⟩
  · rw [exec_overrun_of_full runs full]
    obtain ⟨k, tag, fields, take, _, _, run⟩ | ⟨tag, kind, rfl, unknown⟩ := isRequest_or_unknown formed port
    · rw [run, State.request_of_full k tag take runs full]
    · exact execUnknownKind_of_full tag runs full unknown
  · obtain ⟨j, tag', fields', take, body', _, run⟩ | ⟨tag', c', rfl, unknown⟩ := isRequest_or_unknown formed port
    · cases body.symm.trans body'
      obtain rfl : j = k := by simpa [Laws.BodyFits.kindOfCode_code] using kind
      rw [run, State.request_of_forbidden tag take runs place forbidden]
    · cases body
      rw [kind] at unknown
      exact nomatch unknown
  · exact execUnknownKind_of_place tag runs place unknown

end Sys2Proof.Proofs

/-! ## Requests about ports and stations -/

namespace Sys2Proof.Machine

@[simp] theorem portStation_stationPort (st : Station) : portStation? (stationPort st) = some st := by cases st <;> rfl

theorem stationTake_stationPort (st : Station) (take : Station → State → State × Reply) :
    stationTake (stationPort st) take = take st := by
  funext s; cases st <;> rfl

theorem permitted_stationPort {k : Kind} (st : Station) (group : k.group = .station) :
    permitted k.group (stationPort st) = true := by
  rw [group]; cases st <;> rfl

theorem State.Accepts.place {s : State} {k : Kind} {p : Port} (accepted : s.Accepts k p) : s.hasPlace p = true := by
  obtain ⟨_, place, _⟩ := accepted
  exact place

/-- A station port that runs and has a place is served. -/
theorem State.accepts_stationPort {s : State} {st : Station} {k : Kind} (group : k.group = .station) (runs : s.runs = true)
    (place : s.hasPlace (stationPort st) = true) : s.Accepts k (stationPort st) :=
  ⟨runs, place, permitted_stationPort st group⟩

/-- Changes of two ports, or of different parts of one, may be made in either order. -/
theorem State.modPort_comm (s : State) (p q : Port) {f g : PortState → PortState} (apart : ∀ x, f (g x) = g (f x)) :
    (s.modPort p f).modPort q g = (s.modPort q g).modPort p f := by
  by_cases same : p = q
  · subst same; simp [State.modPort, apart]
  · have other : q ≠ p := Ne.symm same
    simp [State.modPort, same, other, Six.set_comm _ _ _ same]

/-- Leaving out what a port is assembling does not change the other fields of any port. -/
theorem State.rxToHunt_port (s : State) (p q : Port) : (s.rxToHunt p).ports.get q =
    { s.ports.get q with
      rx := if q = p then .hunt else (s.ports.get q).rx
      interByte := if q = p then none else (s.ports.get q).interByte } := by
  rw [State.rxToHunt_eq, State.modPort_ports, Six.get_set]
  split <;> simp_all

/-! ### Events -/

theorem Event.exists_position {i : Nat} (h : i < 10) : ∃ e : Event, e.position = i := by
  interval_cases i
  exacts [⟨.frameClosed, rfl⟩, ⟨.journalFill, rfl⟩, ⟨.phaseChanged, rfl⟩, ⟨.planSwapped, rfl⟩, ⟨.tierChanged, rfl⟩,
    ⟨.headExcluded, rfl⟩, ⟨.lineErrors, rfl⟩, ⟨.bulletinChanged, rfl⟩, ⟨.clockSet, rfl⟩, ⟨.resumed, rfl⟩]

theorem Event.position_lt (e : Event) : e.position < 10 := by cases e <;> decide

/-- An event field is empty exactly when it holds no event. -/
theorem eventField_ne_zero_iff (x : EventField) : x ≠ 0#10 ↔ ∃ e : Event, hasEvent x e = true := by
  refine ⟨fun some => ?_, fun ⟨e, held⟩ none => by simp [none, hasEvent] at held⟩
  by_contra empty
  push Not at empty
  refine some (BitVec.eq_of_getLsbD_eq fun i h => ?_)
  obtain ⟨e, rfl⟩ := Event.exists_position h
  simpa [hasEvent] using empty e

theorem State.attn_iff {s : State} (runs : s.runs = true) (st : Station) : s.attn st = true ↔
    ∃ e : Event, hasEvent (s.stations.get st).flags e = true ∧ hasEvent (s.stations.get st).enables e = true := by
  have some := eventField_ne_zero_iff ((s.stations.get st).flags &&& (s.stations.get st).enables)
  simpa [State.attn, runs, hasEvent] using some

theorem exec_eventsRead {s : State} {st : Station} {tag : Byte} (accepted : s.Accepts .eventsRead (stationPort st)) :
    exec (.eventsRead (stationPort st) tag) s = .next ((s.modStation st (fun x => { x with flags := 0#10 })).answer
      (stationPort st) .eventsRead tag .ok
      (eventBytes (s.stations.get st).flags ++ eventBytes (s.stations.get st).enables)) := by
  refine congrArg _ (State.request_reply (u := s.modStation st _) accepted ?_ accepted.place)
  rw [stationTake_stationPort]
  rfl

theorem exec_eventsEnable {s : State} {st : Station} {tag : Byte} {field : BitVec 16}
    (accepted : s.Accepts .eventsEnable (stationPort st)) :
    exec (.eventsEnable (stationPort st) tag field) s =
      .next ((s.modStation st (fun x => { x with enables := field.setWidth 10 })).answer (stationPort st) .eventsEnable tag .ok
        (eventBytes (field.setWidth 10) ++ eventBytes (s.stations.get st).flags)) := by
  refine congrArg _ (State.request_reply (u := s.modStation st _) accepted ?_ accepted.place)
  rw [stationTake_stationPort]
  rfl

/-! ### PORT_STATUS and PORT_RESET -/

theorem State.portReport_rxToHunt (s : State) (p q : Port) : (s.rxToHunt p).portReport q = s.portReport q := by
  simp [State.portReport, State.rxToHunt_port]

theorem State.clearErrors_rxToHunt (s : State) (p q : Port) :
    (s.rxToHunt p).clearErrors q = (s.clearErrors q).rxToHunt p :=
  s.modPort_comm p q fun _ => rfl

theorem exec_portStatus_of_code {s : State} {p q : Port} {tag index : Byte} (accepted : s.Accepts .portStatus p)
    (names : index.toNat = portCode q) :
    exec (.portStatus p tag index) s = .next ((s.clearErrors q).answer p .portStatus tag .ok (s.portReport q)) := by
  have place : (s.clearErrors q).hasPlace p = true := by
    obtain ⟨_, place, _⟩ := accepted
    rw [← place]
    simp only [State.hasPlace, State.clearErrors, State.modPort_ports, Six.get_set]
    split <;> simp_all
  refine congrArg _ (State.request_reply accepted ?_ place)
  simp only [State.takePortStatus, names, portOfNat_code, State.portReport_rxToHunt, State.clearErrors_rxToHunt]

theorem exec_portReset_of_code {s : State} {p q : Port} {tag index : Byte} (accepted : s.Accepts .portReset p)
    (names : index.toNat = portCode q) : exec (.portReset p tag index) s =
      .next (s.placed p (replyMessage .portReset tag ⟨.ok, f1 (portCode q), some (.portReset q)⟩)) := by
  refine congrArg _ (State.request_answered accepted ?_ accepted.place)
  rw [takePortResetRequest, names, portOfNat_code]

theorem exec_portStatus_of_bad {s : State} {p : Port} {tag index : Byte} (accepted : s.Accepts .portStatus p)
    (bad : 5 < index.toNat) : exec (.portStatus p tag index) s = .next (s.answer p .portStatus tag .badIndex []) := by
  refine congrArg _ (State.request_reply accepted ?_ accepted.place)
  rw [State.takePortStatus, portOfNat_none bad]
  rfl

theorem exec_portReset_of_bad {s : State} {p : Port} {tag index : Byte} (accepted : s.Accepts .portReset p)
    (bad : 5 < index.toNat) : exec (.portReset p tag index) s = .next (s.answer p .portReset tag .badIndex []) := by
  refine congrArg _ (State.request_reply accepted ?_ accepted.place)
  rw [takePortResetRequest, portOfNat_none bad]
  rfl

end Sys2Proof.Machine

namespace Sys2Proof.Proofs

open Sys2Proof.Machine

/-- Settles O11. -/
theorem stationEventsReadAndEnabled : Obligations.StationEventsReadAndEnabled := by
  intro s st tag runs place
  refine ⟨⟨_, rfl, ?_, exec_eventsRead (State.accepts_stationPort rfl runs place)⟩, fun field => ⟨_, rfl, ?_,
    exec_eventsEnable (State.accepts_stationPort rfl runs place)⟩⟩
  · simp [State.attn]
  · refine (State.attn_iff (s := s.modStation st fun x => { x with enables := field.setWidth 10 }) runs st).trans ?_
    simp [hasEvent, Event.position_lt]

/-- Settles O12. -/
theorem portRequestsAreAnswered : Obligations.PortRequestsAreAnswered := by
  intro s p tag index accepted
  refine ⟨fun q names => ⟨?_, ?_⟩, fun bad => ⟨exec_portStatus_of_bad accepted bad, exec_portReset_of_bad accepted bad⟩⟩
  · rw [exec_portStatus_of_code accepted names, State.portReport, ← names, f1_toNat]
    rfl
  · rw [exec_portReset_of_code accepted names, ← names, f1_toNat]
    rfl

end Sys2Proof.Proofs

/-! ## The picture of STATUS_READ -/

namespace Sys2Proof.Machine

/-! ### Fields and codes -/

@[simp] theorem leBytes_length (n : Nat) (v : Int) : (leBytes n v).length = n := by
  induction n generalizing v with
  | zero => rfl
  | succ n ih => simp [leBytes, ih]

@[simp] theorem optField_length (n : Nat) (v : Option Int) : (optField n v).length = n + 1 := by
  cases v <;> simp [optField, zeroBytes]

theorem heads_flatten (g : Head → List Byte) :
    ([Head.h0, .h1, .h2, .h3].map g).flatten = g .h0 ++ g .h1 ++ g .h2 ++ g .h3 := by simp

theorem f1_ite (c : Prop) [Decidable c] : f1 (if c then 0 else 1) = [if c then 0#8 else 1#8] := by
  split <;> rfl

theorem RunState.code_eq (r : RunState) : r.code = if r = .held then 0 else 1 := by cases r <;> rfl

theorem AnchorKind.code_eq (k : AnchorKind) : k.code = if k = .frame then 0 else 1 := by cases k <;> rfl

theorem BankId.code_eq (i : BankId) : i.code = if i = .a then 0 else 1 := by cases i <;> rfl

theorem BudgetFloor.code_eq (b : BudgetFloor) : b.code = if b = .none then 0 else 1 := by cases b <;> rfl

theorem ExclusionReason.code_eq (r : ExclusionReason) : r.code = if r = .misses then 0 else 1 := by cases r <;> rfl

theorem SyncMode.code_eq (m : SyncMode) : m.code = if m = .free then 0 else 1 := by cases m <;> rfl

theorem NoDueReason.code_eq (s : State) : f1 s.noDueReason.code =
    [if s.sched.due.isSome then 0#8 else if s.sched.run = .held then 1#8 else if s.frame.isSome then 2#8
      else if s.plan.remaining = some 0 then 3#8 else if s.energy.effective = .halt then 4#8 else 0#8] := by
  simp only [State.noDueReason, State.exhausted, beq_iff_eq]
  repeat' split
  all_goals rfl

theorem statusMember_eq (m : Option Member) :
    statusMember m = [if m.isSome then 1#8 else 0#8, outcomeByte (m.bind (·.outcome))] := by
  cases m <;> rfl

/-! ### The items of the picture -/

theorem State.statusSched_eq (s : State) : s.statusSched =
    [if s.sched.run = .held then 0#8 else 1#8] ++ optField 4 (s.sched.anchor.map (·.time))
      ++ optField 1 (s.sched.anchor.map (fun x => if x.kind = .frame then 0 else 1)) ++ optField 4 s.sched.due
      ++ optField 4 s.sched.openTime ++ leBytes 4 s.sched.interval ++ leBytes 2 s.sched.skipped
      ++ [if s.sched.due.isSome then 0#8 else if s.sched.run = .held then 1#8 else if s.frame.isSome then 2#8
          else if s.plan.remaining = some 0 then 3#8 else if s.energy.effective = .halt then 4#8 else 0#8] := by
  have kind : (fun x : Anchor => Int.ofNat x.kind.code) = fun x => if x.kind = .frame then 0 else 1 := by
    funext x; rw [AnchorKind.code_eq]; split <;> rfl
  rw [State.statusSched, NoDueReason.code_eq, RunState.code_eq, f1_ite, optNat, Option.map_map]
  simp only [Function.comp_def, kind]
  rfl

theorem State.statusPlan_eq (s : State) : s.statusPlan =
    [if s.plan.active = .a then 0#8 else 1#8] ++ leBytes 1 s.plan.index ++ leBytes 4 s.plan.entry
      ++ optField 2 (s.plan.remaining.map Int.ofNat) ++ [if s.plan.remaining = some 0 then 1#8 else 0#8]
      ++ leBytes 1 s.plan.confirm ++ optField 1 (s.plan.swapPending.map Int.ofNat) := by
  rw [State.statusPlan, BankId.code_eq, f1_ite, fBool]
  simp only [State.exhausted, beq_iff_eq]
  rfl

theorem State.statusMeter_eq (s : State) : s.statusMeter =
    leBytes 1 s.meter.activity.code ++ leBytes 1 s.meter.gateSelection.code
      ++ leBytes 1 (readingStateCode (s.meter.latest.map (·.state))) ++ optField 2 (s.meter.latest.map (·.bv))
      ++ optField 4 (s.meter.latest.map (fun r => (r.count : Int)))
      ++ optField 1 (s.meter.latest.map (fun r => (r.gate.code : Int)))
      ++ optField 4 (s.meter.latest.map (fun r => (r.time : Int))) ++ leBytes 1 (readingStateCode s.meter.previousState) := by
  simp only [State.statusMeter, optNat, Option.map_map]
  rfl

theorem State.statusHead_eq (s : State) (h : Head) : s.statusHead h = leBytes 1 (s.heads.get h).state.code
    ++ [if (s.heads.get h).state = .off then 0#8 else 1#8] ++ leBytes 1 (s.heads.get h).miss
    ++ [if (s.heads.get h).exclusion.isSome then 1#8 else 0#8]
    ++ optField 1 ((s.heads.get h).exclusion.map (fun r => if r = .misses then 0 else 1))
    ++ [if (s.heads.get h).storageMark then 1#8 else 0#8] := by
  have reason : (fun r : ExclusionReason => Int.ofNat r.code) = fun r => if r = .misses then 0 else 1 := by
    funext r; rw [ExclusionReason.code_eq]; split <;> rfl
  have rail : fBool (s.rail h) = [if (s.heads.get h).state = .off then 0#8 else 1#8] := by
    by_cases off : (s.heads.get h).state = .off <;> simp [fBool, State.rail, off]
  simp only [State.statusHead, rail, optNat, Option.map_map, Function.comp_def, reason]
  rfl

theorem State.statusEnergy_eq (s : State) : s.statusEnergy =
    leBytes 2 s.energy.reading ++ leBytes 4 s.energy.readingTime ++ leBytes 1 s.energy.voltageTier.code
      ++ [if s.energy.floor = .none then 0#8 else 1#8] ++ leBytes 1 s.energy.effective.code ++ leBytes 4 s.energy.spend
      ++ ([Head.h0, .h1, .h2, .h3].map (fun h => leBytes 4 (s.energy.onTime.get h).ms
        ++ [if (s.energy.onTime.get h).running then 1#8 else 0#8])).flatten := by
  rw [State.statusEnergy, BudgetFloor.code_eq, f1_ite, heads_flatten]
  simp only [List.append_assoc]
  rfl

theorem State.statusJournal_eq (s : State) : s.statusJournal =
    optField 4 (s.journal.ring.head?.map (fun r => (r.sequence : Int)))
      ++ optField 4 (s.journal.ring.getLast?.map (fun r => (r.sequence : Int))) ++ leBytes 4 s.journal.next
      ++ optField 4 (s.journal.ack.map Int.ofNat) ++ leBytes 2 s.journal.unacknowledged
      ++ [if s.journal.fillRaised then 1#8 else 0#8] := by
  simp only [State.statusJournal, Journal.oldest, Journal.newest, optNat, Option.map_map]
  rfl

theorem State.statusFrame_of_none {s : State} (frame : s.frame = none) : s.statusFrame = List.replicate 21 0#8 := by
  simp only [State.statusFrame, frame]; rfl

theorem State.statusFrame_of_some {s : State} {f : Frame} (frame : s.frame = some f) : s.statusFrame =
    [1#8] ++ leBytes 4 f.sequence ++ leBytes 4 f.due ++ [if f.forced then 1#8 else 0#8]
      ++ [if f.phase.sync = .free then 0#8 else 1#8] ++ leBytes 1 f.sync.code
      ++ [if f.phase.sync = .free then 0#8 else headSetByte s.armSet]
      ++ ([Head.h0, .h1, .h2, .h3].map (fun h =>
          [if (f.members.get h).isSome then 1#8 else 0#8, outcomeByte ((f.members.get h).bind (·.outcome))])).flatten := by
  have arm : s.statusArmSet f = if f.phase.sync = .free then 0#8 else headSetByte s.armSet := by
    unfold State.statusArmSet; split <;> simp_all
  simp only [State.statusFrame, frame]
  rw [arm, SyncMode.code_eq, f1_ite, heads_flatten]
  simp only [statusMember_eq, List.append_assoc]
  rfl

/-! ### Its length, and that the requesting port's assembly is not in it -/

theorem State.statusFrame_length (s : State) : s.statusFrame.length = 21 := by
  unfold State.statusFrame
  split <;> simp [zeroBytes, f1, f4, fTime, fBool, statusMember]

theorem State.statusBytes_length (s : State) (st : Station) : (s.statusBytes st).length = 183 := by
  simp [State.statusBytes, State.statusTime, State.statusSched, State.statusPlan, State.statusMeter, State.statusFrame_length,
    State.statusHead, State.statusEnergy, OnTime.bytes, State.statusJournal, holderBytes, State.statusStation, eventBytes,
    f1, f2, f4, fBool, optNat]

theorem State.statusBytes_rxToHunt (s : State) (p : Port) (st : Station) :
    (s.rxToHunt p).statusBytes st = s.statusBytes st := by
  have station : (s.rxToHunt p).statusStation st = s.statusStation st := by simp [State.statusStation]
  simp only [State.statusBytes, station]
  rfl

theorem exec_statusRead {s : State} {st : Station} {tag : Byte} (accepted : s.Accepts .statusRead (stationPort st)) :
    exec (.statusRead (stationPort st) tag) s =
      .next (s.answer (stationPort st) .statusRead tag .ok (s.statusBytes st)) := by
  refine congrArg _ (State.request_reply accepted ?_ accepted.place)
  rw [stationTake_stationPort, State.statusBytes_rxToHunt]

end Sys2Proof.Machine

namespace Sys2Proof.Proofs

open Sys2Proof.Machine

/-- Settles O13. -/
theorem statusReadIsOnePicture : Obligations.StatusReadIsOnePicture := by
  refine ⟨fun s st tag a frame runs place armed absent present => ?_, by decide⟩
  refine ⟨exec_statusRead (State.accepts_stationPort rfl runs place), s.statusBytes_length st, ?_⟩
  have picture : s.statusFrame = frame := by
    cases flight : s.frame with
    | none => rw [State.statusFrame_of_none flight, absent flight]
    | some f =>
      have set : s.armSet = ⟨a .h0, a .h1, a .h2, a .h3⟩ := by
        simp only [armed]; rfl
      rw [State.statusFrame_of_some flight, present f flight, set]
  have holders : holderBytes s.flags = [Idx.i0, .i1, .i2, .i3, .i4, .i5, .i6, .i7].map (fun i => holderByte (s.flags.get i)) :=
    rfl
  simp only [State.statusBytes, picture, State.statusSched_eq, State.statusPlan_eq, State.statusMeter_eq,
    State.statusHead_eq, State.statusEnergy_eq, State.statusJournal_eq, holders]
  simp [State.statusTime, State.statusStation, eventBytes, f1, f2, f4, fBool, State.timeOfDay, secondsPerDay]

end Sys2Proof.Proofs

/-! ## Requests that touch neither ports nor queues: clock, hold, flags, words, heads and ramp records -/

namespace Sys2Proof.Machine

/-- An accepted request whose block leaves the ports alone. -/
theorem State.exec_plain {s u : State} {k : Kind} {p : Port} {tag : Byte} {take : State → State × Reply} {st : Status}
    {fields : List Byte} (accepted : s.Accepts k p) (taken : take (s.rxToHunt p) = (u.rxToHunt p, reply st fields))
    (ports : u.ports = s.ports) :
    (.next (s.request k p tag take) : StepOutcome) = .next (u.answer p k tag st fields) := by
  have place : u.hasPlace p = true := by rw [State.hasPlace, ports]; exact accepted.place
  rw [State.request_reply accepted taken place]

theorem State.accepts_anyPort {s : State} {p : Port} {k : Kind} (runs : s.runs = true) (place : s.hasPlace p = true)
    (group : k.group = .anyPort) : s.Accepts k p :=
  ⟨runs, place, by rw [group]; rfl⟩

/-! ### Indices -/

theorem idxOfNat_none {n : Nat} (h : 7 < n) : idxOfNat n = none := by
  unfold idxOfNat
  split
  all_goals first | omega | rfl

theorem headOfNat_le {n : Nat} (h : n ≤ 3) : ∃ g : Head, n = headCode g := by
  interval_cases n
  exacts [⟨.h0, rfl⟩, ⟨.h1, rfl⟩, ⟨.h2, rfl⟩, ⟨.h3, rfl⟩]

theorem headCode_inj {g h : Head} : headCode g = headCode h ↔ g = h := by
  cases g <;> cases h <;> simp [headCode]

theorem headsOfIndex_none {n : Nat} (h : 3 < n) (all : n ≠ 255) : headsOfIndex n = none := by
  simp [headsOfIndex, all, headOfNat_none h]

/-- The heads that an index names. -/
theorem headsOfIndex_some {n : Nat} (names : n ≤ 3 ∨ n = 255) : ∃ g : HeadSet, headsOfIndex n = some g
    ∧ ∀ h : Head, g.get h = true ↔ n = 255 ∨ n = headCode h := by
  by_cases all : n = 255
  · exact ⟨Four.all true, by simp [headsOfIndex, all], fun h => by simp [all]⟩
  · obtain ⟨k, rfl⟩ := headOfNat_le (names.resolve_right all)
    refine ⟨(Four.all false).set k true, by simp [headsOfIndex, all, headOfNat_code], fun h => ?_⟩
    rw [Four.get_set, headCode_inj]
    by_cases same : h = k
    · simp [same]
    · simp [same, all, Ne.symm same]

/-! ### Changes of every head of a set -/

/-- The entries of a set of heads changed. -/
def changedOn {α : Type} (g : HeadSet) (f : α → α) (v : Four α) : Four α :=
  ⟨if g.h0 then f v.h0 else v.h0, if g.h1 then f v.h1 else v.h1, if g.h2 then f v.h2 else v.h2,
    if g.h3 then f v.h3 else v.h3⟩

theorem changedOn_get {α : Type} (g : HeadSet) (f : α → α) (v : Four α) (h : Head) :
    (changedOn g f v).get h = if g.get h then f (v.get h) else v.get h := by
  cases h <;> rfl

/-- A head that is admitted with no misses and no storage mark (spec/06 R123). -/
def HeadSeq.readmitted (x : HeadSeq) : HeadSeq := { x with exclusion := none, miss := 0, storageMark := false }

theorem State.changeHeads_readmit (s : State) (g : HeadSet) :
    s.changeHeads g (fun h u => u.readmit h) = { s with heads := changedOn g HeadSeq.readmitted s.heads } := by
  obtain ⟨a, b, c, d⟩ := g
  cases a <;> cases b <;> cases c <;> cases d <;> rfl

theorem State.changeHeads_reseed (s : State) (g : HeadSet) :
    s.changeHeads g (fun h u => u.modRamp h RampRecord.reseeded)
      = { s with ramps := changedOn g RampRecord.reseeded s.ramps } := by
  obtain ⟨a, b, c, d⟩ := g
  cases a <;> cases b <;> cases c <;> cases d <;> rfl

/-! ### The bytes of a head's admission and of a ramp record -/

theorem HeadSeq.admissionBytes_eq (x : HeadSeq) : x.admissionBytes =
    [if x.exclusion.isSome then 1#8 else 0#8]
      ++ (if x.exclusion = none then [0#8, 0#8] else if x.exclusion = some .misses then [1#8, 0#8] else [1#8, 1#8])
      ++ leBytes 1 x.miss := by
  unfold HeadSeq.admissionBytes
  cases x.exclusion with
  | none => rfl
  | some r => cases r <;> rfl

theorem ticketFlagsByte_bits (x : TicketFlags) : (ticketFlagsByte x).getLsbD 0 = x.seeded
    ∧ (ticketFlagsByte x).getLsbD 1 = x.capped ∧ (ticketFlagsByte x).getLsbD 2 = x.brightLimit
    ∧ (ticketFlagsByte x).getLsbD 3 = x.darkLimit ∧ (ticketFlagsByte x).getLsbD 4 = x.noMeter
    ∧ (ticketFlagsByte x).toNat < 32 := by
  obtain ⟨a, b, c, d, e⟩ := x
  revert a b c d e
  decide

/-! ### Windows -/

theorem State.raiseBulletin_stations (s : State) (p : Port) (st : Station) : (s.raiseBulletin p).stations.get st =
    { s.stations.get st with
      flags := if stationPort st = p then (s.stations.get st).flags
        else (s.stations.get st).flags ||| Event.bulletinChanged.mask } := by
  cases p <;> cases st <;> rfl

theorem State.raiseBulletin_eq (s : State) (p : Port) :
    s.raiseBulletin p = { s with stations := (s.raiseBulletin p).stations } := by
  cases p <;> rfl

theorem State.writeWord_get (s : State) (p q : Port) (i j : Idx) (v : BitVec 16) :
    ((s.writeWord p i v).windows.get q).get j = if q = p ∧ j = i then v else (s.windows.get q).get j := by
  rw [State.writeWord, Six.get_set]
  by_cases same : q = p
  · simp [same, Eight.get_set]
  · simp [same]

end Sys2Proof.Machine

namespace Sys2Proof.Proofs

open Sys2Proof.Machine

/-- Settles O14. -/
theorem clockIsSetAndRead : Obligations.ClockIsSetAndRead := by
  refine ⟨fun s t p tag count jump move accepted jumps moves changed => ?_,
    fun s p tag accepted => State.exec_plain accepted rfl rfl⟩
  obtain rfl : move = Member.shift jump := funext moves
  subst changed jumps
  exact State.exec_plain accepted rfl rfl

/-- Settles O16. -/
theorem holdAndRunningResume : Obligations.HoldAndRunningResume := by
  intro s p tag accepted
  refine ⟨State.exec_plain accepted rfl rfl, fun running => State.exec_plain (k := .seqResume) accepted ?_ rfl⟩
  have running' : (s.rxToHunt p).sched.run = .running := running
  simp only [State.takeSeqResume, running', State.resumeBytes]
  rw [RunState.code_eq]
  rfl

/-- Settles O22. -/
theorem sharedFlagsHaveOneHolder : Obligations.SharedFlagsHaveOneHolder := by
  refine ⟨fun s p tag flag runs place beyond => ?_, fun s p tag flag i runs place names => ⟨fun clear => ?_, fun q held => ?_, ?_⟩⟩
  · constructor
    · refine State.exec_plain (State.accepts_anyPort runs place rfl) ?_ rfl
      rw [State.takeFlagSet, idxOfNat_none beyond]; rfl
    · refine State.exec_plain (State.accepts_anyPort runs place rfl) ?_ rfl
      rw [State.takeFlagClear, idxOfNat_none beyond]; rfl
  · constructor
    · refine State.exec_plain (State.accepts_anyPort runs place rfl) ?_ rfl
      simp only [State.takeFlagSet, names, State.rxToHunt_keeps, clear]; rfl
    · refine State.exec_plain (State.accepts_anyPort runs place rfl) ?_ rfl
      simp only [State.takeFlagClear, names, State.rxToHunt_keeps, clear]; rfl
  · refine ⟨?_, fun may => ?_, fun other lower => ?_⟩
    · refine State.exec_plain (State.accepts_anyPort runs place rfl) ?_ rfl
      simp only [State.takeFlagSet, names, State.rxToHunt_keeps, held]; rfl
    · refine State.exec_plain (State.accepts_anyPort runs place rfl) ?_ rfl
      simp only [State.takeFlagClear, names, State.rxToHunt_keeps, held, if_pos may]; rfl
    · refine State.exec_plain (State.accepts_anyPort runs place rfl) ?_ rfl
      simp only [State.takeFlagClear, names, State.rxToHunt_keeps, held]
      rw [if_neg (not_or.mpr ⟨other, lower⟩)]; rfl
  · exact State.exec_plain (State.accepts_anyPort runs place rfl) rfl rfl

/-- Settles O23. -/
theorem bulletinWriteKeepsToItsWindow : Obligations.BulletinWriteKeepsToItsWindow := by
  intro s p tag index value runs place
  refine ⟨fun i names => ⟨(s.writeWord p i value).raiseBulletin p, ?_, ?_, ?_, fun q j apart => ?_, fun st => ?_⟩, fun beyond => ?_⟩
  · refine State.exec_plain (State.accepts_anyPort runs place rfl) ?_ (by rw [State.raiseBulletin_eq]; rfl)
    rw [State.takeBulletinWrite, names, State.raiseBulletin_eq, State.raiseBulletin_eq (s.writeWord p i value)]
    cases p <;> rfl
  · rw [State.raiseBulletin_eq]; rfl
  · rw [State.raiseBulletin_eq]; exact (State.writeWord_get s p p i i value).trans (if_pos ⟨rfl, rfl⟩)
  · rw [State.raiseBulletin_eq]
    exact (State.writeWord_get s p q i j value).trans (if_neg fun same => apart.elim (· same.1) (· same.2))
  · rw [State.raiseBulletin_stations]; exact ⟨rfl, rfl⟩
  · refine State.exec_plain (State.accepts_anyPort runs place rfl) ?_ rfl
    rw [State.takeBulletinWrite, idxOfNat_none beyond]; rfl

/-- Settles O43. -/
theorem readmitClearsTheMisses : Obligations.ReadmitClearsTheMisses := by
  refine ⟨fun s p tag index accepted => ⟨fun beyond all => ?_, fun names => ?_⟩, fun s => ?_⟩
  · refine State.exec_plain accepted ?_ rfl
    rw [State.takeHeadReadmit, headsOfIndex_none beyond all]; rfl
  · obtain ⟨g, set, member⟩ := headsOfIndex_some names
    refine ⟨{ s with heads := changedOn g HeadSeq.readmitted s.heads }, State.exec_plain accepted ?_ rfl, rfl, fun h => ?_⟩
    · simp only [State.takeHeadReadmit, set, State.changeHeads_readmit]; rfl
    · rw [changedOn_get]
      exact if_congr (member h) rfl rfl
  · rw [heads_flatten]
    simp only [State.admissionBytes, HeadSeq.admissionBytes_eq]
    rfl

/-- Settles O44. -/
theorem rampReadAndReseed : Obligations.RampReadAndReseed := by
  refine ⟨fun s p tag index accepted => ⟨fun h names => ?_, fun beyond => ?_, fun beyond all => ?_, fun names => ?_⟩,
    fun r limit => ?_, ticketFlagsByte_bits⟩
  · refine State.exec_plain accepted ?_ rfl
    rw [State.takeRampRead, names, headOfNat_code]; rfl
  · refine State.exec_plain accepted ?_ rfl
    rw [State.takeRampRead, headOfNat_none beyond]; rfl
  · refine State.exec_plain (k := .rampReseed) accepted ?_ rfl
    rw [State.takeRampReseed, headsOfIndex_none beyond all]; rfl
  · obtain ⟨g, set, member⟩ := headsOfIndex_some names
    refine ⟨{ s with ramps := changedOn g RampRecord.reseeded s.ramps },
      State.exec_plain (k := .rampReseed) accepted ?_ rfl, rfl, fun h => ?_⟩
    · simp only [State.takeRampReseed, set, State.changeHeads_reseed]; rfl
    · rw [changedOn_get]
      exact if_congr (member h) rfl rfl
  · unfold RampRecord.bytes summaryBytes
    cases r.lastTicket <;> rfl

end Sys2Proof.Proofs

/-! ## Event flags are raised, never lowered, by the shared operations -/

namespace Sys2Proof.Machine

/-- Every event flag that is set stays set. -/
def State.EventsKept (s t : State) : Prop :=
  ∀ (st : Station) (e : Event), hasEvent (s.stations.get st).flags e = true → hasEvent (t.stations.get st).flags e = true

section

variable {s t u : State}

theorem State.EventsKept.of_eq (h : t.stations = s.stations) : s.EventsKept t := fun _ _ set => by rwa [h]

theorem State.EventsKept.refl (s : State) : s.EventsKept s := .of_eq rfl

theorem State.EventsKept.trans (a : s.EventsKept t) (b : t.EventsKept u) : s.EventsKept u :=
  fun st e set => b st e (a st e set)

theorem State.EventsKept.ite {c : Prop} [Decidable c] (a : c → s.EventsKept t) (b : ¬c → s.EventsKept u) :
    s.EventsKept (if c then t else u) := by
  split
  exacts [a ‹_›, b ‹_›]

theorem State.EventsKept.forHeads {f : Head → State → State} (step : ∀ (h : Head) (s : State), s.EventsKept (f h s))
    (s : State) : s.EventsKept (forHeads f s) :=
  (((step .h0 s).trans (step .h1 _)).trans (step .h2 _)).trans (step .h3 _)

end

theorem hasEvent_or_left {x : EventField} {e : Event} (y : EventField) (set : hasEvent x e = true) :
    hasEvent (x ||| y) e = true := by
  simp_all [hasEvent]

theorem State.raiseAt_events (s : State) (st : Station) (e : Event) : s.EventsKept (s.raiseAt st e) := by
  intro z a set
  rw [State.raiseAt, State.modStation, Two.get_set]
  split
  · next same => subst same; exact hasEvent_or_left _ set
  · exact set

theorem State.raiseBoth_events (s : State) (e : Event) : s.EventsKept (s.raiseBoth e) :=
  (s.raiseAt_events .ul e).trans (State.raiseAt_events _ .sv e)

theorem State.raiseBoth_raised (s : State) (e : Event) (st : Station) :
    hasEvent ((s.raiseBoth e).stations.get st).flags e = true := by
  rw [State.raiseBoth_stations]
  exact hasEvent_or_mask _ _

theorem State.judgeTier_events (s : State) : s.EventsKept s.judgeTier :=
  .ite (fun _ => .refl s) fun _ => State.raiseBoth_events _ _

theorem State.account_events (s : State) (h : Head) : s.EventsKept (s.account h) :=
  (State.EventsKept.of_eq (by simp)).trans (State.judgeTier_events _)

theorem State.measure_events (s : State) : s.EventsKept s.measure :=
  (State.EventsKept.of_eq (by simp)).trans (State.judgeTier_events _)

theorem State.stopOnTime_events (s : State) (h : Head) : s.EventsKept (s.stopOnTime h) :=
  .ite (fun _ => (State.EventsKept.of_eq (by simp)).trans (State.account_events _ h)) fun _ => .refl s

theorem State.resetPort_headPort_stations (s : State) (h : Head) : (s.resetPort (headPort h)).stations = s.stations := by
  cases h <;> rfl

theorem State.railOff_events (s : State) (h : Head) : s.EventsKept (s.railOff h) :=
  (s.stopOnTime_events h).trans (.of_eq (by simp [State.railOff, State.resetPort_headPort_stations]))

theorem State.exclude_events (s : State) (h : Head) (r : ExclusionReason) : s.EventsKept (s.exclude h r) :=
  .ite (fun _ => .refl s) fun _ => (State.EventsKept.of_eq (by simp)).trans (State.raiseBoth_events _ _)

theorem State.judgeMisses_events (s : State) (h : Head) : s.EventsKept (s.judgeMisses h) :=
  .ite (fun _ => .ite (fun _ => (s.exclude_events h _).trans (State.railOff_events _ h)) fun _ => s.exclude_events h _)
    fun _ => .refl s

theorem State.countMiss_events (s : State) (h : Head) : s.EventsKept (s.countMiss h) :=
  (State.EventsKept.of_eq (by simp)).trans (State.judgeMisses_events _ h)

theorem State.applyStorageMark_events (s : State) (h : Head) : s.EventsKept (s.applyStorageMark h) :=
  .ite (fun _ => (State.EventsKept.of_eq (by simp)).trans (State.exclude_events _ h _)) fun _ => .refl s

theorem State.decideEntry_events (s : State) (h : Head) (o : EntryOutcome) : s.EventsKept (s.decideEntry h o) :=
  .of_eq (by simp)

theorem State.abandonMember_events (h : Head) (s : State) : s.EventsKept (State.abandonMember h s) := by
  unfold State.abandonMember
  split
  · split
    case h_1 | h_2 =>
      exact ((s.decideEntry_events h .noReady).trans (State.countMiss_events _ h)).trans (.of_eq (by simp))
    all_goals exact .of_eq (by simp)
  · exact .refl s

theorem State.abandon_events (s : State) : s.EventsKept s.abandon :=
  (State.EventsKept.forHeads State.abandonMember_events s).trans (.of_eq (by simp [State.abandon]))

theorem State.reachD_events (s : State) : s.EventsKept s.reachD := by
  unfold State.reachD
  split
  · exact .refl s
  · refine .ite (fun _ => ?_) fun _ => .refl s
    split
    · exact .of_eq (by simp)
    · exact .ite (fun _ => .of_eq (by simp)) fun _ => .ite (fun _ => .of_eq (by simp)) fun _ => s.abandon_events
    all_goals exact .refl s

theorem State.dropStandby_events (g : HeadSet) (h : Head) (s : State) : s.EventsKept (State.dropStandby g h s) :=
  .ite (fun _ => s.railOff_events h) fun _ => .refl s

theorem State.openFrame_events (s : State) (due : Int) (g : HeadSet) (forced : Bool) :
    s.EventsKept (s.openFrame due g forced) := by
  have created : s.EventsKept (s.createFrame due g forced) := .of_eq (by simp)
  have dropped := created.trans (.forHeads (State.dropStandby_events g) _)
  exact (dropped.trans (.of_eq (by simp))).trans (State.reachD_events _)

theorem State.openScheduled_events (s : State) (due : Int) : s.EventsKept (s.openScheduled due) :=
  .ite (fun _ => .of_eq (by simp)) fun _ => s.openFrame_events _ _ _

theorem State.tryOpen_events (s : State) : s.EventsKept s.tryOpen := by
  refine .ite (fun _ => ?_) fun _ => .refl s
  split
  · exact s.openScheduled_events _
  · exact .refl s

theorem State.reschedule_events (s : State) : s.EventsKept s.reschedule :=
  .ite (fun _ => .refl s) fun _ => (State.EventsKept.of_eq (by simp)).trans (State.tryOpen_events _)

theorem State.enterPhase_events (s : State) (i : Nat) : s.EventsKept (s.enterPhase i) := State.raiseBoth_events _ _

theorem State.swapBanks_events (s : State) (e : Nat) : s.EventsKept (s.swapBanks e) :=
  (State.EventsKept.of_eq rfl).trans ((State.enterPhase_events _ e).trans (State.raiseBoth_events _ _))

theorem State.enterPhase_raised (s : State) (i : Nat) (st : Station) :
    hasEvent ((s.enterPhase i).stations.get st).flags .phaseChanged = true :=
  State.raiseBoth_raised _ _ st

theorem State.swapBanks_raised (s : State) (e : Nat) (st : Station) :
    hasEvent ((s.swapBanks e).stations.get st).flags .planSwapped = true
      ∧ hasEvent ((s.swapBanks e).stations.get st).flags .phaseChanged = true :=
  ⟨State.raiseBoth_raised _ _ st, State.raiseBoth_events _ _ st _ (State.enterPhase_raised _ e st)⟩

/-! ## A station's queue through an open -/

section

variable {s : State} {p : Port}

theorem State.openScheduled_stationPort (station : permitted .station p = true) (due : Int) :
    (s.openScheduled due).ports.get p = s.ports.get p := by
  unfold State.openScheduled
  split
  · simp
  · exact State.openFrame_stationPort station

theorem State.tryOpen_stationPort (station : permitted .station p = true) : s.tryOpen.ports.get p = s.ports.get p := by
  unfold State.tryOpen
  split
  · split
    · exact State.openScheduled_stationPort station _
    · rfl
  · rfl

theorem State.reschedule_stationPort (station : permitted .station p = true) :
    s.reschedule.ports.get p = s.ports.get p := by
  unfold State.reschedule
  split
  · rfl
  · rw [State.tryOpen_stationPort station]
    simp

theorem State.Accepts.allowed {k : Kind} (accepted : s.Accepts k p) : permitted k.group p = true := by
  obtain ⟨_, _, allowed⟩ := accepted
  exact allowed

/-- A request that is handed to its block: what the block does, and then its answer in the port's queue. -/
theorem State.request_taken {k : Kind} {tag : Byte} (accepted : s.Accepts k p) (take : State → State × Reply) :
    s.request k p tag take = (take (s.rxToHunt p)).1.enqueue p (replyMessage k tag (take (s.rxToHunt p)).2) := by
  obtain ⟨runs, place, allowed⟩ := accepted
  simp [State.request, runs, place, allowed]

/-- The answer stands last in a queue that the block left alone. -/
theorem State.enqueue_queue {t : State} (place : s.hasPlace p = true) (same : (t.ports.get p).queue = (s.ports.get p).queue)
    (m : Message) : ((t.enqueue p m).ports.get p).queue = (s.ports.get p).queue ++ [m] := by
  have place' : t.hasPlace p = true := by rw [← place, State.hasPlace, State.hasPlace, same]
  rw [State.enqueue_of_place m place']
  simp [same]

end

end Sys2Proof.Machine

/-! ## The plan: who may edit, what a put record becomes, what a commit checks -/

namespace Sys2Proof.Machine

/-! ### The checks before an edit -/

/-- What a refused plan edit carries: the shadow phase count for PHASE_APPEND, nothing for the others. -/
def editRefusal (k : Kind) (s : State) : List Byte := if k = .phaseAppend then s.shadowCount else []

/-- A request of one of the six edit kinds is an edit of the plan. -/
theorem exec_planEdit {k : Kind} {p : Port} {tag : Byte} {fields : List Byte} {i : Instr}
    (read : requestOfFields k p tag fields = some i)
    (edits : k ∈ [Kind.planClear, .planCopy, .phaseAppend, .phaseReplace, .ladderPut, .commit]) :
    ∃ edit : State → State × Reply, ∀ s : State,
      exec i s = .next (s.request k p tag (fun t => t.planEdit p (editRefusal k t) edit)) := by
  simp only [List.mem_cons, List.not_mem_nil, or_false] at edits
  rcases edits with rfl | rfl | rfl | rfl | rfl | rfl
  all_goals
    simp only [requestOfFields] at read
    repeat' split at read
    all_goals
      cases read <;> exact ⟨_, fun _ => rfl⟩

theorem State.planEdit_of_stranger {s : State} {p : Port} (fields : List Byte) (edit : State → State × Reply)
    (stranger : s.flags.i0 ≠ some p) : s.planEdit p fields edit = (s, reply .notHolder fields) := if_pos stranger

theorem State.planEdit_of_pending {s : State} {p : Port} (fields : List Byte) (edit : State → State × Reply)
    (holds : s.flags.i0 = some p) (pending : s.plan.swapPending.isSome = true) :
    s.planEdit p fields edit = (s, reply .busy fields) := by
  simp [State.planEdit, holds, pending]

/-! ### Clamped fields -/

theorem fitNat_fst {lo hi : Nat} (v : Nat) (h : lo ≤ hi) : (fitNat lo hi v).1 = max lo (min v hi) := clampNat_eq v h

theorem fitInt_fst {lo hi : Int} (v : Int) (h : lo ≤ hi) : (fitInt lo hi v).1 = max lo (min v hi) := clampInt_eq v h

theorem fitNat_snd_iff {lo hi : Nat} (v : Nat) (h : lo ≤ hi) : (fitNat lo hi v).2 = true ↔ v < lo ∨ hi < v := by
  simp only [fitNat, clampNat_eq v h, bne_iff_ne]; omega

theorem fitInt_snd_iff {lo hi : Int} (v : Int) (h : lo ≤ hi) : (fitInt lo hi v).2 = true ↔ v < lo ∨ hi < v := by
  simp only [fitInt, clampInt_eq v h, bne_iff_ne]; omega

/-! ### Put phase records -/

theorem anyHead_headSetOfByte (b : Byte) : anyHead (fun h => (headSetOfByte b).get h) = decide (b.toNat % 16 ≠ 0) := by
  revert b; decide

theorem byte_eq_of_le_three {b : Byte} (h : b.toNat ≤ 3) : b = 0#8 ∨ b = 1#8 ∨ b = 2#8 ∨ b = 3#8 := by bv_omega

theorem putStart_none {r : RawPhase} (h : 3 < r.startKind.toNat) : putStart r = none := by
  have known (k : Byte) (small : k.toNat ≤ 3) : r.startKind ≠ k := by rintro rfl; omega
  simp [putStart, known]

theorem putStart_isSome {r : RawPhase} (h : r.startKind.toNat ≤ 3) : (putStart r).isSome = true := by
  rcases byte_eq_of_le_three h with e | e | e | e <;> simp [putStart, e]

theorem syncModeOfByte_none {b : Byte} (h : 1 < b.toNat) : syncModeOfByte b = none := by
  have known (k : Byte) (small : k.toNat ≤ 1) : b ≠ k := by rintro rfl; omega
  simp [syncModeOfByte, known]

theorem syncModeOfByte_isSome {b : Byte} (h : b.toNat ≤ 1) : (syncModeOfByte b).isSome = true := by
  have either : b = 0#8 ∨ b = 1#8 := by bv_omega
  rcases either with rfl | rfl <;> rfl

theorem syncModeOfByte_some {b : Byte} {m : SyncMode} (h : syncModeOfByte b = some m) :
    (b = 0#8 ∧ m = .free) ∨ (b = 1#8 ∧ m = .locked) := by
  unfold syncModeOfByte at h
  split at h
  · next e => cases h; exact .inl ⟨e, rfl⟩
  · split at h
    · next e => cases h; exact .inr ⟨e, rfl⟩
    · exact nomatch h

/-- What a put record that is stored has passed, and what is stored. -/
theorem putPhase_inr {r : RawPhase} {stored : Phase × Bool} (h : putPhase r = .inr stored) :
    ∃ start sync, putStart r = some start ∧ syncModeOfByte r.syncMode = some sync ∧ r.headSet.toNat % 16 ≠ 0
      ∧ stored = storedPhase r start sync := by
  unfold putPhase at h
  split at h
  · exact nomatch h
  · next start hs =>
    split at h
    · exact nomatch h
    · next sync hy =>
      rw [anyHead_headSetOfByte] at h
      split at h
      · exact nomatch h
      · next heads =>
        cases h
        exact ⟨start, sync, hs, hy, by simpa using heads, rfl⟩

/-- The start of a stored record, by its kind. -/
theorem putStart_some {r : RawPhase} {start : Start × Bool} (h : putStart r = some start) :
    (r.startKind = 0#8 ∧ start.1 = .atTime (min r.startTime.toNat 86399) ∧ (start.2 = true ↔ 86399 < r.startTime.toNat))
    ∨ ((r.startKind = 1#8 ∧ start.1 = .onDarker (max (-2176) (min r.threshold.toInt 3454)) (max 1 (min r.confirm.toNat 64))
          ∨ r.startKind = 2#8
            ∧ start.1 = .onBrighter (max (-2176) (min r.threshold.toInt 3454)) (max 1 (min r.confirm.toNat 64)))
        ∧ (start.2 = true ↔
            r.threshold.toInt < -2176 ∨ 3454 < r.threshold.toInt ∨ r.confirm.toNat < 1 ∨ 64 < r.confirm.toNat))
    ∨ (r.startKind = 3#8 ∧ start.1 = .afterLimit ∧ start.2 = false) := by
  simp only [putStart] at h
  have light : ((fitInt (-2176) 3454 r.threshold.toInt).2 || (fitNat 1 64 r.confirm.toNat).2) = true ↔
      r.threshold.toInt < -2176 ∨ 3454 < r.threshold.toInt ∨ r.confirm.toNat < 1 ∨ 64 < r.confirm.toNat := by
    rw [Bool.or_eq_true, fitInt_snd_iff _ (by decide), fitNat_snd_iff _ (by decide), or_assoc]
  split_ifs at h with at0 at1 at2 at3
  · cases h
    refine .inl ⟨at0, ?_, ?_⟩
    · simp [fitNat_fst]
    · simp [fitNat_snd_iff]
  · cases h
    refine .inr (.inl ⟨.inl ⟨at1, ?_⟩, light⟩)
    simp [fitNat_fst, fitInt_fst]
  · cases h
    refine .inr (.inl ⟨.inr ⟨at2, ?_⟩, light⟩)
    simp [fitNat_fst, fitInt_fst]
  · cases h
    exact .inr (.inr ⟨at3, rfl, rfl⟩)

/-- The start of a stored record, kind by kind. -/
theorem putStart_fst {r : RawPhase} {start : Start × Bool} (h : putStart r = some start) :
    (r.startKind = 0#8 → start.1 = .atTime (min r.startTime.toNat 86399))
    ∧ (r.startKind = 1#8 →
        start.1 = .onDarker (max (-2176) (min r.threshold.toInt 3454)) (max 1 (min r.confirm.toNat 64)))
    ∧ (r.startKind = 2#8 →
        start.1 = .onBrighter (max (-2176) (min r.threshold.toInt 3454)) (max 1 (min r.confirm.toNat 64)))
    ∧ (r.startKind = 3#8 → start.1 = .afterLimit) := by
  obtain ⟨kind, value, _⟩ | ⟨⟨kind, value⟩ | ⟨kind, value⟩, _⟩ | ⟨kind, value, _⟩ := putStart_some h <;> simp [kind, value]

theorem putStart_snd {r : RawPhase} {start : Start × Bool} (h : putStart r = some start) : start.2 = true ↔
    (r.startKind = 0#8 ∧ 86399 < r.startTime.toNat)
      ∨ ((r.startKind = 1#8 ∨ r.startKind = 2#8)
          ∧ (r.threshold.toInt < -2176 ∨ 3454 < r.threshold.toInt ∨ r.confirm.toNat < 1 ∨ 64 < r.confirm.toNat)) := by
  obtain ⟨kind, _, clamped⟩ | ⟨⟨kind, _⟩ | ⟨kind, _⟩, clamped⟩ | ⟨kind, _, clamped⟩ := putStart_some h <;>
    simp [kind, clamped]

theorem putLimit_fst (r : RawPhase) :
    (putLimit r).1 = if r.presence.getLsbD 0 then some (max 1 r.frameLimit.toNat) else none := by
  unfold putLimit
  split
  · simp only [fitNat_fst _ (show 1 ≤ 65535 by decide), Option.some.injEq]; omega
  · rfl

theorem putLimit_snd (r : RawPhase) :
    (putLimit r).2 = true ↔ r.presence.getLsbD 0 = true ∧ r.frameLimit.toNat = 0 := by
  unfold putLimit
  split
  · next present => simp only [fitNat_snd_iff _ (show 1 ≤ 65535 by decide), present, true_and]; omega
  · next absent => exact ⟨fun none => (nomatch none), fun held => absurd held.1 absent⟩

theorem putArmWindow_fst (r : RawPhase) (m : SyncMode) :
    (putArmWindow r m).1 = if m = .free then 0 else min r.armWindow.toNat 30 := by
  cases m
  · rfl
  · simp [putArmWindow, fitNat_fst]

theorem putArmWindow_snd (r : RawPhase) (m : SyncMode) :
    (putArmWindow r m).2 = true ↔ m = .locked ∧ 30 < r.armWindow.toNat := by
  cases m
  · simp [putArmWindow]
  · simp [putArmWindow, fitNat_snd_iff]

/-- The numbers of a stored record. -/
theorem storedPhase_fst (r : RawPhase) (start : Start × Bool) (sync : SyncMode) : (storedPhase r start sync).1 =
    { start := start.1, interval := max 2 (min r.interval.toNat 86400)
      frameLimit := if r.presence.getLsbD 0 then some (max 1 r.frameLimit.toNat) else none
      heads := headSetOfByte r.headSet, sync := sync
      armWindow := if sync = .free then 0 else min r.armWindow.toNat 30
      compensation := max (-640) (min r.compensation.toInt 640), targetLevel := max 32 (min r.targetLevel.toNat 992)
      feedbackWeight := min r.feedbackWeight.toNat 16, slewLimit := max 1 (min r.slewLimit.toNat 192)
      smoothingWeight := max 1 (min r.smoothingWeight.toNat 16), deadband := min r.deadband.toNat 32 } := by
  simp [storedPhase, putLimit_fst, putArmWindow_fst, fitNat_fst, fitInt_fst]

/-- A stored record is CLAMPED when one of its examined numbers lay outside. -/
theorem storedPhase_snd (r : RawPhase) (start : Start × Bool) (sync : SyncMode) : (storedPhase r start sync).2 = true ↔
    start.2 = true ∨ r.interval.toNat < 2 ∨ 86400 < r.interval.toNat
      ∨ (r.presence.getLsbD 0 = true ∧ r.frameLimit.toNat = 0) ∨ (sync = .locked ∧ 30 < r.armWindow.toNat)
      ∨ r.compensation.toInt < -640 ∨ 640 < r.compensation.toInt
      ∨ r.targetLevel.toNat < 32 ∨ 992 < r.targetLevel.toNat ∨ 16 < r.feedbackWeight.toNat
      ∨ r.slewLimit.toNat < 1 ∨ 192 < r.slewLimit.toNat ∨ r.smoothingWeight.toNat < 1 ∨ 16 < r.smoothingWeight.toNat
      ∨ 32 < r.deadband.toNat := by
  simp only [storedPhase, Bool.or_eq_true, putLimit_snd, putArmWindow_snd, fitInt_snd_iff _ (show (-640 : Int) ≤ 640 by decide),
    fitNat_snd_iff _ (show 2 ≤ 86400 by decide), fitNat_snd_iff _ (show 32 ≤ 992 by decide),
    fitNat_snd_iff _ (show 0 ≤ 16 by decide), fitNat_snd_iff _ (show 1 ≤ 192 by decide),
    fitNat_snd_iff _ (show 1 ≤ 16 by decide), fitNat_snd_iff _ (show 0 ≤ 32 by decide), Nat.not_lt_zero, false_or, or_assoc]

theorem headSetOfByte_get (b : Byte) (h : Head) : (headSetOfByte b).get h = b.getLsbD (headCode h) := by cases h <;> rfl

theorem headSetOfByte_some {b : Byte} (h : b.toNat % 16 ≠ 0) : ∃ k : Head, (headSetOfByte b).get k = true := by
  have any : anyHead (fun k => (headSetOfByte b).get k) = true := by rw [anyHead_headSetOfByte]; simpa using h
  simp only [anyHead, Bool.or_eq_true] at any
  rcases any with ((e | e) | e) | e
  exacts [⟨_, e⟩, ⟨_, e⟩, ⟨_, e⟩, ⟨_, e⟩]

theorem storedPhase_inRange {r : RawPhase} {start : Start × Bool} (sync : SyncMode) (h : putStart r = some start)
    (heads : r.headSet.toNat % 16 ≠ 0) : (storedPhase r start sync).1.InRange := by
  rw [storedPhase_fst]
  have limit := r.frameLimit.isLt
  refine ⟨?_, ?_, fun n present => ?_, headSetOfByte_some heads, fun free => if_pos free, ?_, ?_, ?_, ?_, ?_, ?_, ?_⟩
  · obtain ⟨_, value, _⟩ | ⟨⟨_, value⟩ | ⟨_, value⟩, _⟩ | ⟨_, value, _⟩ := putStart_some h <;> rw [value] <;> dsimp only <;> omega
  · dsimp only; omega
  · dsimp only at present
    split at present
    · cases present; omega
    · exact nomatch present
  all_goals dsimp only
  · split <;> omega
  all_goals omega

/-- The plan after the banks have exchanged roles (spec/01 R16). -/
theorem State.swapBanks_plan (s : State) (e : Nat) : (s.swapBanks e).plan = { s.plan with
    active := s.plan.active.other, swapPending := none, index := e, entry := (s.plan.entry + 1) % 4294967296
    remaining := (s.plan.shadowBank.phases.getD e defaultPhase).frameLimit, confirm := 0 } := rfl

/-! ### The checks of a commit -/

theorem brokenChain_iff (prev : Phase) (l : List Phase) : brokenChain prev l = true ↔
    ∃ (i : Nat) (ph q : Phase), l[i]? = some ph ∧ (prev :: l)[i]? = some q ∧ ph.start = .afterLimit ∧ q.frameLimit = none := by
  induction l generalizing prev with
  | nil => simp [brokenChain]
  | cons ph rest ih =>
    rw [brokenChain, Bool.or_eq_true, Bool.and_eq_true, decide_eq_true_iff, Option.isNone_iff_eq_none, ih]
    constructor
    · rintro (⟨start, limit⟩ | ⟨i, x, q, at_i, before, start, limit⟩)
      · exact ⟨0, ph, prev, rfl, rfl, start, limit⟩
      · exact ⟨i + 1, x, q, at_i, before, start, limit⟩
    · rintro ⟨_ | i, x, q, at_i, before, start, limit⟩
      · cases at_i; cases before; exact .inl ⟨start, limit⟩
      · exact .inr ⟨i, x, q, at_i, before, start, limit⟩

/-- The cyclic predecessor of a position, as the phase before it in the list with the last one put in front. -/
theorem getElem?_predecessor (l : List Phase) {i : Nat} (h : i < l.length) :
    (l.getLastD defaultPhase :: l)[i]? = l[(i + l.length - 1) % l.length]? := by
  cases i with
  | zero =>
    have last : (0 + l.length - 1) % l.length = l.length - 1 := by rw [Nat.zero_add, Nat.mod_eq_of_lt (by omega)]
    rw [last, ← List.getLast?_eq_getElem?, List.getElem?_cons_zero]
    cases l with
    | nil => simp at h
    | cons a rest => simp [List.getLastD, List.getLast?_eq_some_getLast]
  | succ i =>
    have before : (i + 1 + l.length - 1) % l.length = i := by
      rw [show i + 1 + l.length - 1 = i + l.length by omega, Nat.add_mod_right, Nat.mod_eq_of_lt (by omega)]
    rw [before, List.getElem?_cons_succ]

/-- No AFTER_LIMIT phase of a list follows, in cyclic order, one with no frame limit. -/
theorem brokenChain_false_iff (l : List Phase) : brokenChain (l.getLastD defaultPhase) l = false ↔
    ∀ (i : Nat) (ph : Phase), l[i]? = some ph → ph.start = .afterLimit →
      ∃ q : Phase, l[(i + l.length - 1) % l.length]? = some q ∧ q.frameLimit.isSome = true := by
  rw [← Bool.not_eq_true, brokenChain_iff]
  constructor
  · intro whole i ph at_i start
    have inside : i < l.length := (List.getElem?_eq_some_iff.mp at_i).1
    have wrapped : (i + l.length - 1) % l.length < l.length := Nat.mod_lt _ (by omega)
    refine ⟨_, List.getElem?_eq_getElem wrapped, ?_⟩
    by_contra none
    refine whole ⟨i, ph, _, at_i, ?_, start, by simpa using none⟩
    rw [getElem?_predecessor l inside, List.getElem?_eq_getElem wrapped]
  · rintro whole ⟨i, ph, q, at_i, before, start, limit⟩
    obtain ⟨q', before', limit'⟩ := whole i ph at_i start
    rw [getElem?_predecessor l (List.getElem?_eq_some_iff.mp at_i).1, before'] at before
    cases before
    simp [limit] at limit'

theorem shutterTotal_eq (l : List Segment) :
    shutterTotal l = ((l.filter (fun g => g.control == .shutter)).map (·.span)).sum := by
  induction l with
  | nil => rfl
  | cons g rest ih =>
    by_cases shutter : g.control = .shutter <;> simp [shutterTotal, shutter, ih]

theorem ladderTotal_eq (l : List Segment) : ladderTotal l = (l.map (·.span)).sum := by
  induction l with
  | nil => rfl
  | cons g rest ih => simp [ladderTotal, ih]

theorem all_not_shutter_iff (l : List Segment) : l.all (fun g => decide (g.control ≠ .shutter)) = false ↔
    ∃ g ∈ l, g.control = .shutter := by
  simp [List.all_eq_false]

/-! ### Reading a plan -/

theorem Plan.selected_of_bad (pl : Plan) {n : Nat} (h : 1 < n) : pl.selected n = none := by
  unfold Plan.selected
  split
  · omega
  · omega
  · rfl

theorem Plan.selected_of_code {pl : Plan} {selector : Byte} {which : BankId}
    (names : (selector = 0#8 ∧ which = pl.active) ∨ (selector = 1#8 ∧ which = pl.active.other)) :
    pl.selected selector.toNat = some which := by
  obtain ⟨rfl, rfl⟩ | ⟨rfl, rfl⟩ := names <;> rfl

theorem Bank.itemBytes_none {b : Bank} {item : Byte} (ladder : item ≠ 0xFF#8)
    (beyond : 16 ≤ item.toNat ∨ b.phases.length ≤ item.toNat) : b.itemBytes item.toNat = none := by
  have other : item.toNat ≠ 255 := by bv_omega
  rw [Bank.itemBytes, if_neg other]
  split
  · next small => simp [List.getElem?_eq_none (beyond.resolve_left (Nat.not_le.mpr small))]
  · rfl

theorem Bank.itemBytes_phase {b : Bank} {item : Byte} {ph : Phase} (small : item.toNat < 16)
    (at_item : b.phases[item.toNat]? = some ph) : b.itemBytes item.toNat = some (phaseBytes ph) := by
  rw [Bank.itemBytes, if_neg (by omega), if_pos small, at_item]
  rfl

theorem State.planSummary_eq (s : State) (which : BankId) : s.planSummary which =
    [if which = .a then 0#8 else 1#8] ++ leBytes 1 (s.plan.bank which).phases.length
      ++ leBytes 1 (s.plan.bank which).ladder.length ++ [if s.plan.active = .a then 0#8 else 1#8] ++ leBytes 1 s.plan.index
      ++ leBytes 4 s.plan.entry ++ optField 2 (s.plan.remaining.map Int.ofNat)
      ++ [if s.plan.remaining = some 0 then 1#8 else 0#8] ++ leBytes 1 s.plan.confirm
      ++ optField 1 (s.plan.swapPending.map Int.ofNat) := by
  rw [State.planSummary, BankId.code_eq, BankId.code_eq, f1_ite, f1_ite, fBool]
  simp only [State.exhausted, beq_iff_eq]
  rfl

/-- The first nine bytes of a phase record: the fields of its start. -/
def startBytes (ph : Phase) : List Byte :=
  f1 (startCode ph.start) ++ [phasePresence ph] ++ f4 ((startTime? ph.start).getD 0)
    ++ leBytes 2 ((threshold? ph.start).getD 0) ++ f1 ((confirm? ph.start).getD 0)

theorem startBytes_length (ph : Phase) : (startBytes ph).length = 9 := by simp [startBytes, f1, f4]

theorem phaseBytes_eq (ph : Phase) : phaseBytes ph = startBytes ph ++ (leBytes 4 ph.interval
    ++ leBytes 2 (ph.frameLimit.getD 0 : Nat) ++ [headSetByte ph.heads] ++ [if ph.sync = .free then 0#8 else 1#8]
    ++ leBytes 1 ph.armWindow ++ leBytes 2 ph.compensation ++ leBytes 2 ph.targetLevel ++ leBytes 1 ph.feedbackWeight
    ++ leBytes 1 ph.slewLimit ++ leBytes 1 ph.smoothingWeight ++ leBytes 1 ph.deadband) := by
  have sync : f1 ph.sync.code = [if ph.sync = .free then 0#8 else 1#8] := by rw [SyncMode.code_eq, f1_ite]
  simp only [phaseBytes, startBytes, sync, List.append_assoc]
  rfl

theorem phaseBytes_take (ph : Phase) : (phaseBytes ph).take 9 = startBytes ph := by
  rw [phaseBytes_eq, List.take_left' (startBytes_length ph)]

/-- The presence bits of threshold and confirm count together. -/
theorem or_light (x : Byte) : x ||| 4#8 ||| 8#8 = x ||| 12#8 := by rw [BitVec.or_assoc]; rfl

theorem headSetByte_bits (g : HeadSet) (h : Head) :
    (headSetByte g).getLsbD (headCode h) = g.get h ∧ (headSetByte g).toNat < 16 := by
  obtain ⟨a, b, c, d⟩ := g
  revert a b c d
  cases h <;> decide

theorem slotBytes_eq (n : Nat) (l : List Segment) (h : l.length ≤ n) : slotBytes n l =
    (l.map (fun g => leBytes 1 g.control.code ++ leBytes 2 g.span)).flatten ++ List.replicate (3 * (n - l.length)) 0#8 := by
  induction n generalizing l with
  | zero => simp_all [slotBytes]
  | succ n ih =>
    cases l with
    | nil =>
      rw [slotBytes, ih [] (Nat.zero_le _)]
      simp only [List.map_nil, List.flatten_nil, List.nil_append, List.length_nil, zeroBytes, List.replicate_append_replicate]
      congr 1; omega
    | cons g rest =>
      rw [slotBytes, ih rest (by simpa using h)]
      simp [f1, f2]

end Sys2Proof.Machine

namespace Sys2Proof.Proofs

open Sys2Proof.Machine

/-- Settles O26. -/
theorem planEditsNeedTheHolder : Obligations.PlanEditsNeedTheHolder := by
  intro i s p k c tag fields formed port body kind edits accepted
  obtain ⟨j, tag', fields', take, body', read, _⟩ | ⟨tag', c', rfl, unknown⟩ := isRequest_or_unknown formed port
  · cases body.symm.trans body'
    obtain rfl : j = k := by simpa [Laws.BodyFits.kindOfCode_code] using kind
    obtain ⟨edit, run⟩ := exec_planEdit read edits
    have carried : editRefusal j (s.rxToHunt p)
        = if j = .phaseAppend then leBytes 1 s.plan.shadowBank.phases.length else [] := rfl
    rw [run]
    refine ⟨fun stranger => State.exec_plain accepted ?_ rfl, fun holds pending => State.exec_plain accepted ?_ rfl⟩
    · rw [State.planEdit_of_stranger (s := s.rxToHunt p) _ _ stranger, carried]
    · rw [State.planEdit_of_pending (s := s.rxToHunt p) _ _ holds pending, carried]
  · cases body
    rw [kind] at unknown
    exact nomatch unknown

/-- Settles O28. -/
theorem storedPhaseIsInRange : Obligations.StoredPhaseIsInRange := by
  intro r
  refine ⟨fun ph clamped stored => ?_, fun start => ?_, fun start sync => ?_, fun start sync heads => ?_,
    fun start sync heads => ?_⟩
  · obtain ⟨start, sync, startOk, syncOk, heads, same⟩ := putPhase_inr stored
    obtain ⟨rfl, rfl⟩ : ph = (storedPhase r start sync).1 ∧ clamped = (storedPhase r start sync).2 := by
      rw [← same]; exact ⟨rfl, rfl⟩
    obtain ⟨at0, at1, at2, at3⟩ := putStart_fst startOk
    have free : r.syncMode = 0#8 ↔ sync = .free := by
      obtain ⟨mode, rfl⟩ | ⟨mode, rfl⟩ := syncModeOfByte_some syncOk <;> simp [mode]
    have locked : r.syncMode = 1#8 ↔ sync = .locked := by
      obtain ⟨mode, rfl⟩ | ⟨mode, rfl⟩ := syncModeOfByte_some syncOk <;> simp [mode]
    refine ⟨storedPhase_inRange sync startOk heads, ?_⟩
    rw [storedPhase_fst, storedPhase_snd, putStart_snd startOk, locked, or_assoc]
    refine ⟨at0, at1, at2, at3, rfl, rfl, headSetOfByte_get _, ?_, ?_, rfl, rfl, rfl, rfl, rfl, rfl, Iff.rfl⟩
    · cases sync <;> simp [free]
    · exact (if_congr free rfl rfl).symm
  · simp [putPhase, putStart_none start]
  · obtain ⟨x, hx⟩ := Option.isSome_iff_exists.mp (putStart_isSome start)
    simp [putPhase, hx, syncModeOfByte_none sync]
  · obtain ⟨x, hx⟩ := Option.isSome_iff_exists.mp (putStart_isSome start)
    obtain ⟨m, hm⟩ := Option.isSome_iff_exists.mp (syncModeOfByte_isSome sync)
    simp [putPhase, hx, hm, anyHead_headSetOfByte, heads]
  · obtain ⟨x, hx⟩ := Option.isSome_iff_exists.mp (putStart_isSome start)
    obtain ⟨m, hm⟩ := Option.isSome_iff_exists.mp (syncModeOfByte_isSome sync)
    exact ⟨_, _, by simp only [putPhase, hx, hm, anyHead_headSetOfByte]; simp [heads]; rfl⟩

/-- Settles O31. -/
theorem commitChecksThePlan : Obligations.CommitChecksThePlan := by
  intro b entry shutter total chain hasShutter chainIs hasIs shutterIs totalIs
  rw [← shutterTotal_eq] at shutterIs
  rw [← ladderTotal_eq] at totalIs
  rw [← brokenChain_false_iff] at chainIs
  rw [← all_not_shutter_iff] at hasIs
  subst shutterIs totalIs
  rw [chainIs, hasIs]
  simp only [commitFault, Config.maxShutterTotal, Config.maxLadderTotal]
  by_cases none : b.phases = []
  · simp [none]
  by_cases outside : b.phases.length ≤ entry
  · simp [none, outside, Nat.not_lt.mpr outside]
  have inside := Nat.not_le.mp outside
  cases broken : brokenChain (b.phases.getLastD defaultPhase) b.phases
  case true => simp [none, outside, inside]
  by_cases empty : b.ladder = []
  · simp [none, outside, inside, empty]
  cases dark : b.ladder.all (fun g => decide (g.control ≠ .shutter))
  case true => simp [none, outside, inside, empty]
  by_cases long : 1408 < shutterTotal b.ladder
  · simp [none, outside, inside, empty, long]
  by_cases longer : 1920 < ladderTotal b.ladder
  · simp [none, outside, inside, empty, long, longer]; omega
  · simp [none, outside, inside, empty, long, longer]; omega

/-- Settles O30. -/
theorem commitTakesEffect : Obligations.CommitTakesEffect := by
  refine ⟨rfl, fun s p tag entry accepted holds settled => ?_⟩
  have edited (t : State) (same : t = s.rxToHunt p) :
      t.planEdit p [] (fun u => u.takeCommit entry.toNat) = t.takeCommit entry.toNat := by
    subst same
    exact State.planEdit_of_holder (s := s.rxToHunt p) [] _ holds settled
  refine ⟨fun reason fault => ?_, fun valid flight => ?_, fun valid none => ?_⟩
  · refine State.exec_plain accepted ?_ rfl
    rw [edited _ rfl]
    simp only [State.takeCommit, State.rxToHunt_keeps, fault]
    rfl
  · refine State.exec_plain (u := { s with plan := { s.plan with swapPending := some entry.toNat } }) accepted ?_ rfl
    rw [edited _ rfl]
    simp only [State.takeCommit, State.rxToHunt_keeps, valid, flight]
    rfl
  · refine ⟨_, congrArg Host.Outcome.next (State.request_taken accepted _), ?_⟩
    have taken : (s.rxToHunt p).takeCommit entry.toNat = (((s.rxToHunt p).swapBanks entry.toNat).reschedule,
        reply .ok (f1 s.plan.active.other.code ++ f1 0)) := by
      simp [State.takeCommit, valid, none]
    rw [edited _ rfl, taken]
    refine ⟨?_, fun st => ?_, ?_⟩
    · simp only [State.enqueue_keeps, State.reschedule_keeps]
      rw [State.swapBanks_plan, settled]
      rfl
    · obtain ⟨swapped, entered⟩ := State.swapBanks_raised (s.rxToHunt p) entry.toNat st
      simp only [State.enqueue_keeps]
      exact ⟨State.reschedule_events _ st _ swapped, State.reschedule_events _ st _ entered⟩
    · have queue : ((((s.rxToHunt p).swapBanks entry.toNat).reschedule).ports.get p).queue = (s.ports.get p).queue := by
        rw [State.reschedule_stationPort accepted.allowed]; simp
      rw [State.enqueue_queue accepted.place queue]
      rfl

/-- Settles O32. -/
theorem planReadReports : Obligations.PlanReadReports := by
  refine ⟨fun s p tag selector item which accepted => ⟨fun bad => ?_, fun names => ⟨fun ladder => ?_, fun ph small held => ?_,
    fun other beyond => ?_⟩⟩, State.planSummary_eq, fun n v => ⟨rfl, rfl⟩, fun ph b bit => ?_, headSetByte_bits, fun l short => ?_⟩
  · refine State.exec_plain accepted ?_ rfl
    rw [State.takePlanRead, Plan.selected_of_bad _ bad]; rfl
  · refine State.exec_plain accepted ?_ rfl
    subst ladder
    simp only [State.takePlanRead, State.rxToHunt_keeps, Plan.selected_of_code names]; rfl
  · refine State.exec_plain accepted ?_ rfl
    simp only [State.takePlanRead, State.rxToHunt_keeps, Plan.selected_of_code names, Bank.itemBytes_phase small held]; rfl
  · refine State.exec_plain accepted ?_ rfl
    simp only [State.takePlanRead, State.rxToHunt_keeps, Plan.selected_of_code names, Bank.itemBytes_none other beyond]; rfl
  · refine ⟨by rw [phaseBytes_eq]; simp [startBytes_length], ?_, fun time start => ?_, fun v c start => ?_, fun v c start => ?_,
      fun start => ?_⟩
    · rw [phaseBytes_eq, List.drop_left' (startBytes_length ph)]
    all_goals
      rw [phaseBytes_take, bit]
      simp [startBytes, phasePresence, start, startCode, startTime?, threshold?, confirm?, f1, f4, leBytes, or_light]
  · rw [ladderBytes, slotBytes_eq _ l short]; rfl

end Sys2Proof.Proofs

/-! ## The journal: reading, acknowledging, and the close of a frame -/

namespace Sys2Proof.Machine

/-! ### JOURNAL_READ -/

theorem recordListBytes_eq (l : List JournalRecord) : recordListBytes l = (l.map recordBytes).flatten := by
  induction l with
  | nil => rfl
  | cons r rest ih => simp [recordListBytes, ih]

theorem exec_journalRead {s : State} {p : Port} {tag count : Byte} {start : BitVec 32} {st : Status}
    {records : List JournalRecord} (accepted : s.Accepts .journalRead p)
    (answer : s.journal.read start.toNat count.toNat = (st, records)) :
    exec (.journalRead p tag start count) s = .next (s.answer p .journalRead tag st
      (s.journal.summary ++ f1 records.length ++ (records.map recordBytes).flatten)) := by
  refine State.exec_plain accepted ?_ rfl
  simp only [State.takeJournalRead, State.rxToHunt_keeps, answer, recordListBytes_eq]

theorem Journal.read_of_badCount (j : Journal) (start : Nat) {count : Nat} (bad : count = 0 ∨ 2 < count) :
    j.read start count = (.badIndex, []) := if_pos bad

theorem Journal.read_of_empty {j : Journal} (start : Nat) {count : Nat} (good : ¬(count = 0 ∨ 2 < count))
    (empty : j.ring = []) : j.read start count = (.ok, []) := by
  simp [Journal.read, good, Journal.oldest, empty]

theorem Journal.read_of_cons {j : Journal} {r : JournalRecord} {rest : List JournalRecord} (start : Nat) {count : Nat}
    (good : ¬(count = 0 ∨ 2 < count)) (ring : j.ring = r :: rest) :
    j.read start count = (if start < r.sequence then .gap else .ok, j.recordsFrom start count) := by
  simp [Journal.read, good, Journal.oldest, ring]

/-- Of consecutive sequences, those from a start on are what is left after as many records as lie before it. -/
theorem filter_sequencesFrom {n : Nat} {l : List JournalRecord} (run : sequencesFrom n l) (start : Nat) :
    l.filter (fun r => decide (start ≤ r.sequence)) = l.drop (start - n) := by
  induction l generalizing n with
  | nil => simp
  | cons r rest ih =>
    obtain ⟨first, later⟩ := run
    rw [List.filter_cons, ih later, first]
    by_cases before : start ≤ n
    · have none : start - n = 0 := by omega
      have none' : start - (n + 1) = 0 := by omega
      simp [before, none, none']
    · have one : start - n = (start - (n + 1)) + 1 := by omega
      simp [before, one]

/-! ### JOURNAL_ACK -/

/-- The fill marker as it is judged. -/
def Journal.fillJudged (j : Journal) (level : Nat) : Journal := { j with fillRaised := decide (level ≤ j.unacknowledged) }

/-- The fill marker judged: raised exactly from the level on, with JOURNAL_FILL when it becomes raised. -/
theorem State.judgeFill_eq (s : State) : s.judgeFill =
    if s.settings.fillLevel ≤ s.journal.unacknowledged ∧ s.journal.fillRaised = false then
      ({ s with journal := s.journal.fillJudged s.settings.fillLevel } : State).raiseBoth .journalFill
    else { s with journal := s.journal.fillJudged s.settings.fillLevel } := by
  by_cases reached : s.settings.fillLevel ≤ s.journal.unacknowledged
  · cases raised : s.journal.fillRaised with
    | false => simp [State.judgeFill, Journal.fillJudged, reached, raised]
    | true =>
      have same : s.journal.fillJudged s.settings.fillLevel = s.journal := by
        rw [Journal.fillJudged, decide_eq_true reached, ← raised]
      simp [State.judgeFill, reached, raised, same]
  · simp [State.judgeFill, Journal.fillJudged, reached]

theorem State.judgeFill_journal (s : State) : s.judgeFill.journal = s.journal.fillJudged s.settings.fillLevel := by
  rw [State.judgeFill_eq]
  split <;> simp

@[simp] theorem Journal.fillJudged_unacknowledged (j : Journal) (n : Nat) : (j.fillJudged n).unacknowledged = j.unacknowledged :=
  rfl

/-- The judging of the marker touches the journal and the event flags alone. -/
theorem State.judgeFill_rest (s : State) :
    s.judgeFill = { s with journal := s.judgeFill.journal, stations := s.judgeFill.stations } := by
  rw [State.judgeFill_eq]
  split <;> rfl

theorem State.judgeFill_raising {s : State} (reached : s.settings.fillLevel ≤ s.journal.unacknowledged)
    (clear : s.journal.fillRaised = false) : s.judgeFill =
      ({ s with journal := s.journal.fillJudged s.settings.fillLevel } : State).raiseBoth .journalFill := by
  rw [State.judgeFill_eq, if_pos ⟨reached, clear⟩]

theorem State.judgeFill_quiet {s : State}
    (quiet : s.journal.fillRaised = true ∨ ¬ s.settings.fillLevel ≤ s.journal.unacknowledged) :
    s.judgeFill.stations = s.stations := by
  rw [State.judgeFill_eq, if_neg]
  rintro ⟨reached, clear⟩
  rcases quiet with raised | low
  · simp [clear] at raised
  · exact low reached

theorem aboveMark_iff (ack : Option Nat) (q : Nat) : aboveMark ack q = true ↔ markBelow ack q := by
  cases ack <;> simp [aboveMark, markBelow]

/-- The state of a JOURNAL_ACK after the mark has moved. -/
def State.marked (s : State) (q : Nat) : State :=
  { s with journal := { s.journal with ack := (s.journal.acknowledge q).1 } }

/-- The state of a JOURNAL_ACK after the mark has moved and the marker has been judged. -/
def State.acknowledged (s : State) (q : Nat) : State := (s.marked q).judgeFill

theorem exec_journalAck {s : State} {p : Port} {tag : Byte} {q : BitVec 32} (accepted : s.Accepts .journalAck p) :
    exec (.journalAck p tag q) s = .next ((s.acknowledged q.toNat).answer p .journalAck tag
      (s.journal.acknowledge q.toNat).2 (s.acknowledged q.toNat).journal.summary) := by
  refine State.exec_plain accepted ?_ (by simp [State.acknowledged, State.marked])
  simp only [State.takeJournalAck, State.rxToHunt_keeps, State.acknowledged, State.marked, State.judgeFill_eq]
  (repeat' split) <;> rfl

theorem Journal.unacknowledged_of_none {j : Journal} (none : j.ack = none) : j.unacknowledged = j.ring.length := by
  simp [Journal.unacknowledged, none, aboveMark]

theorem Journal.unacknowledged_of_some {j : Journal} {m : Nat} (mark : j.ack = some m) :
    j.unacknowledged = (j.ring.filter (fun r => decide (m < r.sequence))).length := by
  simp [Journal.unacknowledged, mark, aboveMark, List.countP_eq_length_filter]

/-! ### The bytes of a record -/

theorem presentCount_eq {α : Type} (v : Four (Option α)) :
    presentCount v = ([Head.h0, .h1, .h2, .h3].filter (fun h => (v.get h).isSome)).length := by
  obtain ⟨a, b, c, d⟩ := v
  cases a <;> cases b <;> cases c <;> cases d <;> rfl

theorem optEntryBytes_eq (h : Head) (e : Option HeadEntry) : optEntryBytes h e = e.elim [] (fun e =>
    leBytes 1 (headCode h) ++ leBytes 1 e.outcome.code
      ++ [(if e.ticket.isSome then 1#8 else 0#8) ||| (if e.level.isSome then 2#8 else 0#8)]
      ++ leBytes 4 ((e.ticket.map (·.exposure)).getD 0 : Nat) ++ leBytes 2 ((e.ticket.map (·.gain)).getD 0 : Nat)
      ++ leBytes 2 ((e.ticket.map (·.aperture)).getD 0 : Nat) ++ leBytes 2 ((e.ticket.map (·.need)).getD 0 : Nat)
      ++ leBytes 2 (e.level.getD 0 : Nat)) := by
  cases e with
  | none => rfl
  | some e =>
    cases ticket : e.ticket with
    | none => simp [optEntryBytes, headEntryBytes, ticketPartBytes, ticket, zeroBytes, f1, f2, leBytes]
    | some t => simp [optEntryBytes, headEntryBytes, ticketPartBytes, ticket, f1, f2, f4]

/-! ### The append and its deliveries -/

theorem State.deliver_events (s : State) (r : JournalRecord) (st : Station) : s.EventsKept (s.deliver r st) :=
  .ite (fun _ => .of_eq (by simp)) fun _ => s.raiseAt_events st _

theorem stationPort_inj {a b : Station} : stationPort a = stationPort b ↔ a = b := by cases a <;> cases b <;> simp [stationPort]

/-- A delivery to one station leaves the port of the other. -/
theorem State.deliver_port_ne (s : State) (r : JournalRecord) {st z : Station} (other : st ≠ z) :
    (s.deliver r z).ports.get (stationPort st) = s.ports.get (stationPort st) := by
  unfold State.deliver State.enqueue
  split
  · split
    · simp [stationPort_inj, other]
    · rfl
  · simp

theorem State.deliver_queue {s : State} {r : JournalRecord} {st : Station} (push : s.settings.push.get st = .push)
    (place : s.hasPlace (stationPort st) = true) : ((s.deliver r st).ports.get (stationPort st)).queue =
      (s.ports.get (stationPort st)).queue ++ [pushMessage s.journal.unacknowledged r] := by
  rw [State.deliver_push push place, State.enqueue_queue place rfl]

theorem State.deliver_flagged {s : State} {r : JournalRecord} {st : Station}
    (flag : s.settings.push.get st = .flag ∨ s.hasPlace (stationPort st) = false) :
    hasEvent ((s.deliver r st).stations.get st).flags .frameClosed = true
      ∧ (s.deliver r st).ports.get (stationPort st) = s.ports.get (stationPort st) := by
  rw [State.deliver_flag flag]
  exact ⟨by simp [State.raiseAt, State.modStation, hasEvent_or_mask], by simp⟩

theorem State.hasPlace_congr {s t : State} {p : Port} (same : t.ports.get p = s.ports.get p) : t.hasPlace p = s.hasPlace p := by
  rw [State.hasPlace, State.hasPlace, same]

/-- The ring of the append, with the fill marker judged on it. -/
def State.appended (s : State) (f : Frame) : State :=
  ({ s with journal := { s.journal with ring := appendRing s.journal.ring (s.recordOf f) } } : State).judgeFill

theorem State.journalClose_eq (s : State) (f : Frame) :
    s.journalClose f = ((s.appended f).deliver (s.recordOf f) .ul).deliver (s.recordOf f) .sv := rfl

theorem State.journalClose_journal (s : State) (f : Frame) : (s.journalClose f).journal =
    ({ s.journal with ring := appendRing s.journal.ring (s.recordOf f) } : Journal).fillJudged s.settings.fillLevel := by
  rw [State.journalClose_eq]
  simp only [State.deliver_keeps]
  exact State.judgeFill_journal _

theorem State.appended_unacknowledged (s : State) (f : Frame) :
    (s.appended f).journal.unacknowledged = (s.journalClose f).journal.unacknowledged := by
  rw [State.journalClose_eq]
  simp

theorem State.journalClose_push {s : State} (f : Frame) {st : Station} (push : s.settings.push.get st = .push)
    (place : s.hasPlace (stationPort st) = true) : ((s.journalClose f).ports.get (stationPort st)).queue =
      (s.ports.get (stationPort st)).queue ++
        [pushMessage (s.journalClose f).journal.unacknowledged (s.recordOf f)] := by
  have ports : (s.appended f).ports = s.ports := by simp [State.appended]
  have place' : (s.appended f).hasPlace (stationPort st) = true := by rwa [State.hasPlace, ports]
  have push' : (s.appended f).settings.push.get st = .push := by simpa [State.appended] using push
  rw [← State.appended_unacknowledged, State.journalClose_eq]
  cases st with
  | ul => rw [State.deliver_port_ne _ _ (by decide), State.deliver_queue push' place', ports]
  | sv =>
    have same := (s.appended f).deliver_port_ne (s.recordOf f) (show Station.sv ≠ .ul by decide)
    rw [State.deliver_queue (by simpa using push') ((State.hasPlace_congr same).trans place'), same, ports]
    simp

theorem State.journalClose_flag {s : State} (f : Frame) {st : Station}
    (flag : s.settings.push.get st = .flag ∨ s.hasPlace (stationPort st) = false) :
    hasEvent ((s.journalClose f).stations.get st).flags .frameClosed = true
      ∧ (s.journalClose f).ports.get (stationPort st) = s.ports.get (stationPort st) := by
  have ports : (s.appended f).ports = s.ports := by simp [State.appended]
  have flag' : (s.appended f).settings.push.get st = .flag ∨ (s.appended f).hasPlace (stationPort st) = false := by
    simpa [State.appended, State.hasPlace] using flag
  rw [State.journalClose_eq]
  cases st with
  | ul =>
    obtain ⟨raised, port⟩ := State.deliver_flagged (r := s.recordOf f) flag'
    exact ⟨State.deliver_events _ _ .sv .ul _ raised, by rw [State.deliver_port_ne _ _ (by decide), port, ports]⟩
  | sv =>
    have same := (s.appended f).deliver_port_ne (s.recordOf f) (show Station.sv ≠ .ul by decide)
    have flag'' := flag'.imp (fun h => (show ((s.appended f).deliver (s.recordOf f) .ul).settings.push.get .sv = .flag by
      simpa using h)) fun h => (State.hasPlace_congr same).trans h
    obtain ⟨raised, port⟩ := State.deliver_flagged (r := s.recordOf f) flag''
    exact ⟨raised, by rw [port, same, ports]⟩

theorem recordOf_heads (s : State) (f : Frame) (h : Head) : (s.recordOf f).heads.get h = (f.members.get h).map entryOf := by
  cases h <;> rfl

theorem timeField_cast (t : Int) : (timeField t : Int) = t % 4294967296 := by
  unfold timeField countModulus; omega

/-! ### The outcome of a frame -/

theorem memberDone_iff (m : Option Member) : memberDone m = true ↔ ∃ x, m = some x ∧ x.outcome = some .done := by
  cases m <;> simp [memberDone]

theorem anyHead_iff (p : Head → Bool) : anyHead p = true ↔ ∃ h, p h = true := by
  simp only [anyHead, Bool.or_eq_true]
  constructor
  · rintro (((h | h) | h) | h)
    exacts [⟨_, h⟩, ⟨_, h⟩, ⟨_, h⟩, ⟨_, h⟩]
  · rintro ⟨h, holds⟩
    cases h <;> simp [holds]

theorem allHeads_iff (p : Head → Bool) : allHeads p = true ↔ ∀ h, p h = true := by
  simp only [allHeads, Bool.and_eq_true]
  constructor
  · rintro ⟨⟨⟨a, b⟩, c⟩, d⟩ h
    cases h <;> assumption
  · intro all
    exact ⟨⟨⟨all _, all _⟩, all _⟩, all _⟩

theorem Frame.anyDone_iff (f : Frame) :
    f.anyDone = true ↔ ∃ (h : Head) (m : Member), f.members.get h = some m ∧ m.outcome = some .done := by
  simp only [Frame.anyDone, anyHead_iff, memberDone_iff]

theorem Frame.allDone_iff (f : Frame) :
    f.allDone = true ↔ ∀ (h : Head) (m : Member), f.members.get h = some m → m.outcome = some .done := by
  simp only [Frame.allDone, allHeads_iff, Bool.or_eq_true, Option.isNone_iff_eq_none, memberDone_iff]
  refine forall_congr' fun h => ⟨?_, fun all => ?_⟩
  · rintro (none | ⟨x, held, done⟩) m member
    · rw [none] at member; exact nomatch member
    · rw [held] at member; cases member; exact done
  · cases member : f.members.get h with
    | none => exact .inl rfl
    | some m => exact .inr ⟨m, rfl, all m member⟩

/-- The outcome at a close is that of the table (spec/05 R97). -/
theorem Frame.judgeOutcome_concludes (f : Frame) : f.Concludes f.judgeOutcome := by
  unfold Frame.judgeOutcome
  refine ⟨fun abandoned => if_pos abandoned, fun kept aborted => ?_, fun kept whole powered => ⟨fun all => ?_,
    fun done undone => ?_, fun ⟨h, member⟩ none => ?_⟩⟩
  · rw [if_neg kept, if_pos aborted]
  all_goals
    rw [if_neg kept, if_neg (by simp [whole, powered])]
  · rw [if_pos (f.allDone_iff.mpr all)]
  · rw [if_neg, if_pos (f.anyDone_iff.mpr done)]
    rw [Frame.allDone_iff]
    obtain ⟨h, m, member, other⟩ := undone
    exact fun all => other (all h m member)
  · obtain ⟨m, member⟩ := Option.isSome_iff_exists.mp member
    rw [if_neg, if_neg]
    · rw [Frame.anyDone_iff]
      rintro ⟨k, x, held, done⟩
      exact none k x held done
    · rw [Frame.allDone_iff]
      exact fun all => none h m member (all h m member)

/-! ### The Plan Controller at a close -/

theorem State.frameCounts_iff {s : State} {f : Frame} {o : FrameOutcome} (outcome : f.outcome = some o) :
    s.frameCounts f = true ↔ s.plan.Counts f o ∧ ∃ n, s.plan.remaining = some (n + 1) := by
  rcases left : s.plan.remaining with _ | _ | n <;> simp [State.frameCounts, left, outcome, Plan.Counts, and_assoc]

theorem State.countFrame_of_counts {s : State} {f : Frame} (counts : s.frameCounts f = true) :
    s.countFrame f = { s with plan := { s.plan with remaining := s.plan.remaining.map (· - 1) } } := if_pos counts

theorem State.countFrame_of_not {s : State} {f : Frame} (counts : s.frameCounts f = false) : s.countFrame f = s := by
  simp [State.countFrame, counts]

@[simp] theorem State.countFrame_swapPending (s : State) (f : Frame) :
    (s.countFrame f).plan.swapPending = s.plan.swapPending := by
  unfold State.countFrame; split <;> rfl

@[simp] theorem State.computeDue_frame (s : State) : s.computeDue.frame = s.frame := by simp

theorem State.afterLimitMet_iff (s : State) :
    s.afterLimitMet = true ↔ s.plan.remaining = some 0 ∧ s.plan.successor.start = .afterLimit := by
  simp [State.afterLimitMet, State.exhausted]

/-- A frame that does not count leaves the plan, when no swap waits. -/
theorem State.planClose_of_not {s : State} {f : Frame} (settled : s.plan.swapPending = none)
    (counts : s.frameCounts f = false) : s.planClose f = s := by
  simp [State.planClose, State.countFrame_of_not counts, settled, counts]

/-- A pending swap is made at the close, whatever the count. -/
theorem State.planClose_of_pending {s : State} {e : Nat} (f : Frame) (pending : s.plan.swapPending = some e) :
    s.planClose f = (s.countFrame f).swapBanks e := by
  simp [State.planClose, pending]

/-- A frame that counts takes one of the remaining ones; an AFTER_LIMIT successor follows the last of a RUNNING part. -/
theorem State.planClose_of_counts {s : State} {f : Frame} (settled : s.plan.swapPending = none)
    (counts : s.frameCounts f = true) : s.planClose f =
      if s.sched.run = .running ∧ (s.countFrame f).afterLimitMet = true then
        (s.countFrame f).enterPhase (s.countFrame f).plan.successorIndex
      else s.countFrame f := by
  simp [State.planClose, settled, counts]

/-- A frame with the outcome of its close. -/
def Frame.concluded (f : Frame) : Frame := { f with outcome := some f.judgeOutcome }

/-- The state in which the close of a frame lets the due time be computed: taken up by the three blocks, the anchor moved. -/
def State.closedUp (s : State) (f : Frame) : State :=
  { s.takeUpClose f.concluded with sched := (s.takeUpClose f.concluded).sched.afterFrame f }

theorem State.closedUp_of_kept {s : State} {f : Frame} (kept : f.forced = true ∨ f.resumedInFlight = true) :
    s.closedUp f = s.takeUpClose f.concluded := by
  have same (c : Scheduler) : c.afterFrame f = c := by rcases kept with h | h <;> simp [Scheduler.afterFrame, h]
  rw [State.closedUp, same]

theorem State.closedUp_of_moved {s : State} {f : Frame} (own : f.forced = false) (alone : f.resumedInFlight = false) :
    s.closedUp f = { s.takeUpClose f.concluded with
      sched := { (s.takeUpClose f.concluded).sched with anchor := some ⟨f.due, .frame⟩, lastDue := none } } := by
  have moved (c : Scheduler) : c.afterFrame f = { c with anchor := some ⟨f.due, .frame⟩, lastDue := none } := by
    simp [Scheduler.afterFrame, own, alone, Scheduler.setAnchor]
  rw [State.closedUp, moved]

theorem State.closedUp_frame (s : State) (f : Frame) : (s.closedUp f).frame = none := rfl

theorem State.closeFrame_eq (s : State) (f : Frame) : s.closeFrame f = (s.closedUp f).computeDue.tryOpen := rfl

theorem State.tryOpen_of_ahead {s : State} (ahead : s.openReached = false) : s.tryOpen = s := by
  simp [State.tryOpen, ahead]

theorem State.tryOpen_of_reached {s : State} {d : Int} (frame : s.frame = none) (reached : s.openReached = true)
    (due : s.sched.due = some d) : s.tryOpen = s.openScheduled d := by
  simp [State.tryOpen, frame, reached, due]

end Sys2Proof.Machine

namespace Sys2Proof.Proofs

open Sys2Proof.Machine

/-- Settles O33. -/
theorem journalIsReadAndAcknowledged : Obligations.JournalIsReadAndAcknowledged := by
  refine ⟨fun s p tag count start accepted => ⟨fun bad => ?_, fun low high held => ?_, fun r rest n ring kept low high skip inside => ?_⟩,
    fun s p tag q accepted => ?_, fun j => ⟨?_, fun empty => ?_, fun r rest ring => ?_, fun r rest ring => ?_,
      Journal.unacknowledged_of_none, fun m => Journal.unacknowledged_of_some⟩, fun r => ?_⟩
  · rw [exec_journalRead accepted (Journal.read_of_badCount _ _ bad)]
    simp [f1, leBytes]
  · have good : ¬(count.toNat = 0 ∨ 2 < count.toNat) := by omega
    have nothing : s.journal.read start.toNat count.toNat = (.ok, []) := by
      cases ring : s.journal.ring with
      | nil => exact Journal.read_of_empty _ good ring
      | cons r rest =>
        rcases held with empty | ⟨_, before⟩
        · rw [ring] at empty; exact nomatch empty
        · have first : r.sequence < start.toNat := before r (by simp [ring])
          have none : s.journal.recordsFrom start.toNat count.toNat = [] := by
            rw [Journal.recordsFrom, List.filter_eq_nil_iff.mpr fun x held => by simpa using before x held, List.take_nil]
          rw [Journal.read_of_cons _ good ring, none, if_neg (by omega)]
    rw [exec_journalRead accepted nothing]
    simp [f1, leBytes]
  · refine ⟨_, rfl, ?_⟩
    obtain ⟨_, _, run, _, _⟩ := kept
    rw [ring] at run
    have first : r.sequence = s.nextClosed - (r :: rest).length := run.1
    have from_n : s.journal.recordsFrom start.toNat count.toNat = ((r :: rest).drop n).take count.toNat := by
      rw [Journal.recordsFrom, ring, filter_sequencesFrom run, ← first, skip]
    rw [exec_journalRead accepted (Journal.read_of_cons _ (by omega) ring), from_n]
    rfl
  · refine ⟨s.acknowledged q.toNat, _, exec_journalAck accepted, ?_⟩
    have rest : s.acknowledged q.toNat = { s with
        journal := (s.acknowledged q.toNat).journal, stations := (s.acknowledged q.toNat).stations } := State.judgeFill_rest _
    refine ⟨rest, ?_⟩
    have journal : (s.acknowledged q.toNat).journal =
        ({ s.journal with ack := (s.journal.acknowledge q.toNat).1 } : Journal).fillJudged s.settings.fillLevel :=
      State.judgeFill_journal _
    rw [journal]
    refine ⟨rfl, rfl, fun empty => ?_, fun n newest => ⟨fun beyond => ?_, fun held above => ?_, fun held at_mark => ?_⟩,
      decide_eq_true_iff, fun clear raised z => ?_, fun same => ?_⟩
    · simp [Journal.acknowledge, Journal.newest, empty, Journal.fillJudged]
    · simp [Journal.acknowledge, newest, beyond, Journal.fillJudged]
    · rw [← aboveMark_iff] at above
      simp [Journal.acknowledge, newest, Nat.not_lt.mpr held, atOrBelowMark, above, Journal.fillJudged]
    · rw [← aboveMark_iff, Bool.not_eq_true] at at_mark
      simp [Journal.acknowledge, newest, Nat.not_lt.mpr held, atOrBelowMark, at_mark, Journal.fillJudged]
    · have reached := of_decide_eq_true raised
      rw [State.acknowledged, State.judgeFill_raising (s := s.marked q.toNat) reached clear, State.raiseBoth_stations]
      rfl
    · refine State.judgeFill_quiet ?_
      rcases same with raised | low
      · exact .inl raised
      · exact .inr (of_decide_eq_false low)
  · rw [Journal.summary]
    cases j.ring <;> rfl
  · simp [Journal.oldest, Journal.newest, empty]
  · simp [Journal.oldest, ring]
  · simp [Journal.newest, ring]
  · rw [recordBytes, presentCount_eq, BankId.code_eq, f1_ite, heads_flatten]
    simp only [optEntryBytes_eq, List.append_assoc]
    cases r.meter <;> rfl

/-- Settles O34. -/
theorem appendDeliversToEachStation : Obligations.AppendDeliversToEachStation := by
  refine ⟨fun s f st => ⟨_, s.recordOf f, rfl, ?_⟩, fun s f => ?_, fun s f o n outcome => ⟨fun settled counts left => ?_,
    fun settled free => ?_, fun e pending => ?_⟩⟩
  · rw [State.journalClose_journal]
    refine ⟨rfl, rfl, rfl, rfl, rfl, timeField_cast _, rfl, rfl, rfl, rfl, rfl, fun h => ?_, fun push place => ?_, fun flag => ?_⟩
    · rw [recordOf_heads, Option.isSome_map]
    · rw [State.journalClose_push f push place, State.journalClose_journal]
      rfl
    · exact State.journalClose_flag f flag
  · refine ⟨f.concluded, f.judgeOutcome, s.takeUpClose f.concluded, s.closedUp f, f.judgeOutcome_concludes, rfl, rfl,
      State.closedUp_of_kept, State.closedUp_of_moved, fun ahead => ?_, fun d reached due => ?_⟩
    · rw [State.closeFrame_eq, State.tryOpen_of_ahead ahead]
    · exact State.tryOpen_of_reached (s := (s.closedUp f).computeDue) (State.computeDue_frame _) reached due
  · have frameCounts : s.frameCounts f = true := (State.frameCounts_iff outcome).mpr ⟨counts, n, left⟩
    rw [State.planClose_of_counts settled frameCounts, State.countFrame_of_counts frameCounts, left]
    refine ⟨fun last running after => ?_, fun more => ?_⟩
    · subst last
      rw [if_pos ⟨running, (State.afterLimitMet_iff _).mpr ⟨rfl, after⟩⟩]
      exact ⟨rfl, State.enterPhase_raised _ _⟩
    · rw [if_neg]
      · rfl
      · rintro ⟨running, met⟩
        obtain ⟨exhausted, after⟩ := (State.afterLimitMet_iff _).mp met
        rcases more with left' | held | other
        · obtain rfl : n = 0 := by simpa using exhausted
          exact absurd left' (Nat.lt_irrefl 0)
        · rw [running] at held; exact nomatch held
        · exact other after
  · refine State.planClose_of_not settled ?_
    rw [← Bool.not_eq_true, State.frameCounts_iff outcome]
    rintro ⟨counts, n, left⟩
    rcases free with other | none | none
    · exact other counts
    all_goals rw [left] at none; simp at none
  · rw [State.planClose_of_pending f pending]
    refine ⟨?_, rfl, ?_, rfl, State.swapBanks_raised _ e⟩
    all_goals
      rw [State.swapBanks_plan]
      unfold State.countFrame
      split <;> rfl

end Sys2Proof.Proofs

/-! ## The schedule: the due time, and the forced open -/

namespace Sys2Proof.Machine

/-! ### The due time -/

/-- The first index from `first` on whose multiple of the interval reaches a target. -/
theorem max_ceilDiv_least (first target : Int) {interval : Int} (pos : 0 < interval) :
    target ≤ max first (ceilDiv target interval) * interval
      ∧ ∀ j : Int, first ≤ j → j < max first (ceilDiv target interval) → j * interval < target := by
  obtain ⟨reaches, least⟩ := ceilDiv_least target interval pos
  refine ⟨le_trans reaches (Int.mul_le_mul_of_nonneg_right (le_max_right _ _) (by omega)), fun j low below => ?_⟩
  exact least j (by omega)

theorem Tier.stretch_pos (t : Tier) : 1 ≤ t.stretch := by cases t <;> decide

theorem effectiveInterval_pos {interval : Nat} (t : Tier) (h : 1 ≤ interval) : 0 < (effectiveInterval interval t : Int) := by
  have prod : 1 ≤ interval * t.stretch := Nat.mul_pos h t.stretch_pos
  simp only [effectiveInterval, Config.maxInterval]
  omega

theorem State.computeDue_of_anchor {s : State} {a : Anchor} (open_ : s.noSchedule = false) (anchor : s.sched.anchor = some a) :
    s.computeDue = { s with
      sched := s.sched.dueFrom a (effectiveInterval s.plan.activePhase.interval s.energy.effective)
        (s.largestLead s.group) s.now } := by
  simp [State.computeDue, open_, anchor]

theorem State.noSchedule_false {s : State} (running : s.sched.run = .running) (left : s.exhausted = false)
    (powered : s.energy.effective ≠ .halt) : s.noSchedule = false := by
  simp [State.noSchedule, running, left, powered]

theorem State.noSchedule_true {s : State}
    (h : s.sched.run = .held ∨ s.exhausted = true ∨ s.energy.effective = .halt) : s.noSchedule = true := by
  rcases h with h | h | h <;> simp [State.noSchedule, h]

theorem State.computeDue_of_noSchedule {s : State} (h : s.noSchedule = true) :
    s.computeDue = { s with sched := s.sched.noDue } := by
  simp [State.computeDue, h]

/-- The index that is taken, when the START anchor itself is not. -/
theorem takenIndex_of_past {a : Anchor} {now : Int} (interval lead : Nat) (past : ¬(a.kind = .start ∧ now ≤ a.time)) :
    takenIndex a interval lead now = max a.kind.first (ceilDiv (now + lead - a.time) interval) := if_neg past

theorem takenIndex_of_start {a : Anchor} {now : Int} (interval lead : Nat) (ahead : a.kind = .start ∧ now ≤ a.time) :
    takenIndex a interval lead now = 0 := if_pos ahead

theorem takenIndex_first (a : Anchor) (interval lead : Nat) (now : Int) : a.kind.first ≤ takenIndex a interval lead now := by
  by_cases ahead : a.kind = .start ∧ now ≤ a.time
  · rw [takenIndex_of_start _ _ ahead, ahead.1]; decide
  · rw [takenIndex_of_past _ _ ahead]; exact le_max_left _ _

theorem passedOver_of_fresh {a : Anchor} {interval inForce : Nat} {lastDue : Option Int} (k : Int)
    (fresh : lastDue = none ∨ interval ≠ inForce) :
    passedOver a k interval inForce lastDue = (k - a.kind.first).toNat := by
  unfold passedOver
  split
  · rfl
  · next last => rw [if_neg (fresh.resolve_left (by simp))]

/-! ### The group and its leads -/

theorem headSetOf_get (p : Head → Bool) (h : Head) : (headSetOf p).get h = p h := by cases h <;> rfl

theorem Tier.allows_iff (t : Tier) (mask : HeadSet) (h : Head) : t.allows mask h = true ↔
    t = .normal ∨ t = .economy ∨ (t = .reserve ∧ mask.get h = true) := by
  cases t <;> simp [Tier.allows]

theorem State.group_iff (s : State) (h : Head) : s.group.get h = true ↔ s.plan.activePhase.heads.get h = true
    ∧ (s.heads.get h).exclusion = none ∧ (s.energy.effective = .normal ∨ s.energy.effective = .economy
      ∨ (s.energy.effective = .reserve ∧ s.settings.reserveMask.get h = true)) := by
  rw [State.group, headSetOf_get, Bool.and_eq_true, Bool.and_eq_true, Tier.allows_iff, Option.isNone_iff_eq_none, and_assoc]

/-- The lead of a head of a set, 0 for one outside it. -/
def State.leadIn (s : State) (g : HeadSet) (h : Head) : Nat := if g.get h then (s.settings.head.get h).lead else 0

theorem State.leadIn_le (s : State) (g : HeadSet) (h : Head) : s.leadIn g h ≤ s.largestLead g := by
  cases h <;> simp [State.largestLead, State.leadIn, State.headSettings]

theorem State.largestLead_attained (s : State) (g : HeadSet) : ∃ h : Head, s.largestLead g = s.leadIn g h := by
  have cases4 : s.largestLead g = max (max (s.leadIn g .h0) (s.leadIn g .h1)) (max (s.leadIn g .h2) (s.leadIn g .h3)) := rfl
  rcases max_choice (max (s.leadIn g .h0) (s.leadIn g .h1)) (max (s.leadIn g .h2) (s.leadIn g .h3)) with e | e
  · rcases max_choice (s.leadIn g .h0) (s.leadIn g .h1) with e' | e'
    exacts [⟨.h0, by rw [cases4, e, e']⟩, ⟨.h1, by rw [cases4, e, e']⟩]
  · rcases max_choice (s.leadIn g .h2) (s.leadIn g .h3) with e' | e'
    exacts [⟨.h2, by rw [cases4, e, e']⟩, ⟨.h3, by rw [cases4, e, e']⟩]

theorem emptyGroup_iff (g : HeadSet) : emptyGroup g = true ↔ ∀ h : Head, g.get h = false := by
  simp only [emptyGroup, Bool.not_eq_true', ← Bool.not_eq_true, anyHead_iff, not_exists]

/-! ### The open of a frame, field by field -/

theorem Meter.start_activity (m : Meter) (st : Settings) : (m.start st).activity ≠ .idle := by
  simp only [Meter.start]
  cases st.settle == 0 <;> simp

theorem State.askReading_activity (s : State) : s.askReading.meter.activity ≠ .idle := by
  unfold State.askReading
  split
  · exact Meter.start_activity _ _
  · assumption

/-- A meter reading runs once a frame has opened. -/
theorem State.openFrame_activity (s : State) (due : Int) (g : HeadSet) (forced : Bool) :
    (s.openFrame due g forced).meter.activity ≠ .idle := by
  simp only [State.openFrame, State.reachD_keeps, State.wakeReached_keeps]
  exact State.askReading_activity _

theorem State.membersOf_isSome (s : State) (due : Int) (g : HeadSet) (h : Head) :
    ((s.membersOf due g).get h).isSome = g.get h := by
  have withMember : ∀ (b : Bool) (m : Member), (if b then some m else none).isSome = b := fun b m => by
    cases b <;> rfl
  cases h <;> exact withMember _ _

theorem restart_next (j : Journal) : j.restart.next = if j.next = 4294967295 then 0 else j.next := by
  unfold Journal.restart; split <;> rfl

/-- What FORCE_FRAME takes its checks from is the same whatever the requesting port is assembling. -/
theorem State.takeForceFrame_of_open {s : State} (powered : s.energy.effective ≠ .halt) (none : s.frame = none)
    (some : emptyGroup s.group = false) : s.takeForceFrame = (s.openFrame s.forcedDue s.group true,
      reply .ok (f4 s.journal.restart.next ++ fTime s.forcedDue)) := by
  simp [State.takeForceFrame, powered, none, some]

end Sys2Proof.Machine

namespace Sys2Proof.Proofs

open Sys2Proof.Machine

/-- Settles O18. -/
theorem dueTimeIsTheFirstAhead : Obligations.DueTimeIsTheFirstAhead := by
  refine ⟨fun s a running left powered anchor whole => ?_, fun s none => ?_, ⟨rfl, rfl⟩, ⟨rfl, rfl, rfl⟩, State.group_iff,
    fun s g => ⟨fun h member => ?_, ?_⟩⟩
  · rw [State.computeDue_of_anchor (State.noSchedule_false running left powered) anchor]
    have pos := effectiveInterval_pos s.energy.effective whole
    refine ⟨takenIndex a (effectiveInterval s.plan.activePhase.interval s.energy.effective) (s.largestLead s.group) s.now,
      rfl, takenIndex_first _ _ _ _, rfl, rfl, rfl, fun start ahead => takenIndex_of_start _ _ ⟨start, ahead⟩, fun past => ?_,
      fun fresh => ?_, fun last lastDue inForce => ?_, rfl, rfl, rfl⟩
    · rw [takenIndex_of_past (now := s.now) _ _ past]
      obtain ⟨reaches, least⟩ := max_ceilDiv_least a.kind.first (s.now + s.largestLead s.group - a.time) pos
      simp only [Scheduler.dueFrom, State.now] at reaches least ⊢
      exact ⟨by omega, fun j low below => by have := least j low below; omega⟩
    · simp only [Scheduler.dueFrom, Scheduler.addSkipped] at fresh ⊢
      rw [passedOver_of_fresh _ fresh]
      rfl
    · obtain ⟨reaches, least⟩ := max_ceilDiv_least a.kind.first (last - a.time) pos
      simp only [Scheduler.dueFrom] at inForce ⊢
      refine ⟨max a.kind.first (ceilDiv (last - a.time) (effectiveInterval s.plan.activePhase.interval s.energy.effective)),
        le_max_left _ _, ?_, fun i low below => ?_, ?_⟩
      · omega
      · have := least i low below; omega
      · simp only [Scheduler.addSkipped, passedOver, lastDue, if_pos inForce]
        rfl
  · exact State.computeDue_of_noSchedule (State.noSchedule_true none)
  · have := s.leadIn_le g h
    rwa [State.leadIn, if_pos member] at this
  · obtain ⟨h, attained⟩ := s.largestLead_attained g
    cases member : g.get h with
    | true => exact .inr ⟨h, member, by rw [attained, State.leadIn, if_pos member]⟩
    | false => exact .inl (by rw [attained, State.leadIn, if_neg (by simp [member])])

/-- Settles O19. -/
theorem forceFrameOpensOrIsTurnedAway : Obligations.ForceFrameOpensOrIsTurnedAway := by
  refine ⟨fun s p tag accepted powered none members => ?_, fun s p tag accepted => ⟨fun halted => ?_, fun powered flight => ?_,
    fun powered none empty => ?_⟩⟩
  · have some : emptyGroup (s.rxToHunt p).group = false := by
      obtain ⟨h, member⟩ := members
      rw [← Bool.not_eq_true, emptyGroup_iff]
      exact fun all => by simpa [show (s.rxToHunt p).group = s.group from rfl, member] using all h
    have taken := State.takeForceFrame_of_open (s := s.rxToHunt p) (by simpa using powered) (by simpa using none) some
    obtain ⟨f, frame, same, memberships⟩ :=
      (s.rxToHunt p).openFrame_frame (s.rxToHunt p).forcedDue (s.rxToHunt p).group true
    refine ⟨_, f, congrArg Host.Outcome.next (State.request_taken accepted _), ?_⟩
    rw [taken]
    have queue : (((s.rxToHunt p).openFrame (s.rxToHunt p).forcedDue (s.rxToHunt p).group true).ports.get p).queue
        = (s.ports.get p).queue := by
      rw [State.openFrame_stationPort accepted.allowed]; simp
    rw [State.enqueue_queue accepted.place queue]
    simp only [State.enqueue_keeps, State.openFrame_sched, State.openFrame_journal, State.openFrame_keeps]
    have sequence : f.sequence = s.journal.restart.next := by rw [same]; rfl
    have due : f.due = s.forcedDue := by rw [same]; rfl
    refine ⟨frame, by rw [sequence, restart_next], by rw [sequence]; rfl, by rw [due]; rfl, by rw [same]; rfl, by rw [same]; rfl,
      by rw [same]; rfl, by rw [same]; rfl, by rw [same]; rfl, by rw [same]; rfl, by rw [same]; rfl, by rw [same]; rfl,
      by rw [same]; rfl, fun h => (memberships h).trans (State.membersOf_isSome _ _ _ h), rfl, rfl, rfl, trivial, rfl,
      State.openFrame_activity _ _ _ _, rfl, ?_⟩
    rw [sequence, due]
    rfl
  · refine State.exec_plain accepted ?_ rfl
    simp only [State.takeForceFrame, State.rxToHunt_keeps, if_pos halted]; rfl
  · refine State.exec_plain accepted ?_ rfl
    simp only [State.takeForceFrame, State.rxToHunt_keeps, if_neg powered, if_pos flight]; rfl
  · refine State.exec_plain accepted ?_ rfl
    have empty' : emptyGroup (s.rxToHunt p).group = true := (emptyGroup_iff _).mpr empty
    simp [State.takeForceFrame, powered, none, empty', bare]

end Sys2Proof.Proofs

/-! ## SEQ_RESUME -/

namespace Sys2Proof.Machine

/-! ### The part starts running -/

/-- What SEQ_RESUME does before the due time is computed: RUNNING with its anchor, a reading asked for, and an AFTER_LIMIT
successor entered. -/
def State.restarted (s : State) : State :=
  let t := s.startRunning.askReading
  if t.afterLimitMet then t.enterPhase t.plan.successorIndex else t

theorem State.resume_eq (s : State) : s.resume = s.restarted.reschedule := rfl

theorem State.reschedule_of_frame {s : State} (flight : s.frame.isSome = true) : s.reschedule = s := if_pos flight

theorem State.reschedule_of_none {s : State} (idle : s.frame = none) : s.reschedule = s.computeDue.tryOpen := by
  simp [State.reschedule, idle]

theorem State.startRunning_sched (s : State) : s.startRunning.sched =
    { s.sched with run := .running, anchor := some ⟨s.now + 5, .start⟩, lastDue := none } := by
  simp [State.startRunning, Scheduler.setAnchor, Config.startDelay]

theorem State.startRunning_frame (s : State) :
    s.startRunning.frame = s.frame.map (fun f => { f with resumedInFlight := true }) := by
  unfold State.startRunning State.modFrame
  cases s.frame <;> simp

@[simp] theorem State.startRunning_keeps (s : State) :
    s.startRunning.time = s.time ∧ s.startRunning.plan = s.plan ∧ s.startRunning.ramps = s.ramps
      ∧ s.startRunning.heads = s.heads ∧ s.startRunning.energy = s.energy ∧ s.startRunning.journal = s.journal
      ∧ s.startRunning.ports = s.ports ∧ s.startRunning.stations = s.stations ∧ s.startRunning.settings = s.settings := by
  simp only [State.startRunning, State.modFrame_keeps, and_self]

theorem State.startRunning_afterLimitMet (s : State) : s.startRunning.askReading.afterLimitMet = s.afterLimitMet := by
  simp [State.afterLimitMet, State.exhausted]

theorem State.restarted_of_staying {s : State} (stays : s.afterLimitMet = false) :
    s.restarted = s.startRunning.askReading := by
  simp [State.restarted, State.startRunning_afterLimitMet, stays]

theorem State.restarted_of_entering {s : State} (enters : s.afterLimitMet = true) :
    s.restarted = s.startRunning.askReading.enterPhase s.plan.successorIndex := by
  simp [State.restarted, State.startRunning_afterLimitMet, enters]

/-- The plan after a resume: that of the phase entered, or the one in force. -/
theorem State.restarted_plan (s : State) :
    s.restarted.plan = if s.afterLimitMet then s.plan.enter s.plan.successorIndex else s.plan := by
  cases met : s.afterLimitMet with
  | false => rw [State.restarted_of_staying met]; simp
  | true => rw [State.restarted_of_entering met]; simp [State.enterPhase]

theorem State.restarted_sched (s : State) : s.restarted.sched =
    { s.sched with run := .running, anchor := some ⟨s.now + 5, .start⟩, lastDue := none } := by
  cases met : s.afterLimitMet with
  | false => rw [State.restarted_of_staying met]; simp [State.startRunning_sched]
  | true => rw [State.restarted_of_entering met]; simp [State.startRunning_sched]

theorem State.restarted_frame (s : State) :
    s.restarted.frame = s.frame.map (fun f => { f with resumedInFlight := true }) := by
  cases met : s.afterLimitMet with
  | false => rw [State.restarted_of_staying met]; simp [State.startRunning_frame]
  | true => rw [State.restarted_of_entering met]; simp [State.startRunning_frame]

theorem State.restarted_activity (s : State) : s.restarted.meter.activity ≠ .idle := by
  have asked := State.askReading_activity s.startRunning
  cases met : s.afterLimitMet with
  | false => rwa [State.restarted_of_staying met]
  | true => rw [State.restarted_of_entering met]; simpa using asked

@[simp] theorem State.restarted_keeps (s : State) :
    s.restarted.time = s.time ∧ s.restarted.ramps = s.ramps ∧ s.restarted.heads = s.heads
      ∧ s.restarted.energy = s.energy ∧ s.restarted.journal = s.journal ∧ s.restarted.ports = s.ports
      ∧ s.restarted.settings = s.settings := by
  cases met : s.afterLimitMet with
  | false => rw [State.restarted_of_staying met]; simp
  | true => rw [State.restarted_of_entering met]; simp

theorem State.resume_stationPort {s : State} {p : Port} (station : permitted .station p = true) :
    s.resume.ports.get p = s.ports.get p := by
  rw [State.resume_eq, State.reschedule_stationPort station]; simp

theorem State.rxToHunt_afterLimitMet (s : State) (p : Port) : (s.rxToHunt p).afterLimitMet = s.afterLimitMet := by
  simp [State.afterLimitMet, State.exhausted]

theorem State.afterLimitMet_of {s : State} (limit : s.exhausted = true) (follows : s.plan.successor.start = .afterLimit) :
    s.afterLimitMet = true := by
  simp [State.afterLimitMet, limit, follows]

theorem State.afterLimitMet_of_not {s : State} (other : s.exhausted = false ∨ s.plan.successor.start ≠ .afterLimit) :
    s.afterLimitMet = false := by
  rcases other with left | other
  · simp [State.afterLimitMet, left]
  · simp [State.afterLimitMet, other]

theorem State.restarted_raised {s : State} (enters : s.afterLimitMet = true) (st : Station) :
    hasEvent (s.restarted.stations.get st).flags .phaseChanged = true := by
  rw [State.restarted_of_entering enters]; exact State.enterPhase_raised _ _ st

/-! ### The due time from a START anchor ahead -/

theorem State.group_congr {s t : State} (plan : t.plan.activePhase = s.plan.activePhase) (heads : t.heads = s.heads)
    (energy : t.energy = s.energy) (settings : t.settings = s.settings) : t.group = s.group := by
  simp only [State.group, plan, heads, energy, settings]

theorem State.largestLead_congr {s t : State} (settings : t.settings = s.settings) (g : HeadSet) :
    t.largestLead g = s.largestLead g := by
  simp only [State.largestLead, State.headSettings, settings]

/-- The schedule that a START anchor at `time` gives while it is ahead. -/
def State.startSched (s : State) (time : Int) : Scheduler :=
  { s.sched with
    skipped := min s.sched.skipped 65535, due := some time, openTime := some (time - s.largestLead s.group)
    interval := effectiveInterval s.plan.activePhase.interval s.energy.effective, lastDue := some time }

/-- The state with that schedule. -/
def State.scheduledAt (s : State) (time : Int) : State := { s with sched := s.startSched time }

theorem State.computeDue_of_startAhead {s : State} {time : Int} (runs : s.noSchedule = false)
    (anchor : s.sched.anchor = some ⟨time, .start⟩) (fresh : s.sched.lastDue = none) (ahead : s.now ≤ time) :
    s.computeDue = s.scheduledAt time := by
  rw [State.computeDue_of_anchor runs anchor]
  have first : takenIndex ⟨time, .start⟩ (effectiveInterval s.plan.activePhase.interval s.energy.effective)
      (s.largestLead s.group) s.now = 0 := takenIndex_of_start _ _ ⟨rfl, ahead⟩
  simp [Scheduler.dueFrom, first, passedOver_of_fresh _ (.inl fresh), AnchorKind.first,
    Scheduler.addSkipped, saturate, Config.maxSkipped, State.scheduledAt, State.startSched]

theorem State.openReached_iff {s : State} {time : Int} (opens : s.sched.openTime = some time) :
    s.openReached = true ↔ time ≤ s.now := by
  simp [State.openReached, opens]

/-- A START anchor 5 s ahead: no lead above 4 s, and the frame is still to open. -/
theorem State.reschedule_of_shortLead {s : State} (idle : s.frame = none) (runs : s.noSchedule = false)
    (anchor : s.sched.anchor = some ⟨s.now + 5, .start⟩) (fresh : s.sched.lastDue = none)
    (short : s.largestLead s.group ≤ 4) : s.reschedule = s.scheduledAt (s.now + 5) := by
  rw [State.reschedule_of_none idle, State.computeDue_of_startAhead runs anchor fresh (by simp [State.now])]
  refine State.tryOpen_of_ahead (Bool.eq_false_iff.mpr fun reached => ?_)
  have := (State.openReached_iff rfl).mp reached
  simp only [State.now, State.scheduledAt] at this
  omega

/-- A START anchor 5 s ahead with a longer lead: the frame opens at once. -/
theorem State.reschedule_of_longLead {s : State} (idle : s.frame = none) (runs : s.noSchedule = false)
    (anchor : s.sched.anchor = some ⟨s.now + 5, .start⟩) (fresh : s.sched.lastDue = none)
    (long : 5 ≤ s.largestLead s.group) : s.reschedule =
      (s.scheduledAt (s.now + 5)).openFrame (s.now + 5) s.group false := by
  have member : emptyGroup s.group = false := by
    rw [← Bool.not_eq_true, emptyGroup_iff]
    intro all
    obtain ⟨h, attained⟩ := s.largestLead_attained s.group
    rw [attained, State.leadIn, if_neg (by simp [all h])] at long
    omega
  rw [State.reschedule_of_none idle, State.computeDue_of_startAhead runs anchor fresh (by simp [State.now]),
    State.tryOpen_of_reached (s := s.scheduledAt (s.now + 5)) (d := s.now + 5) idle ?_ rfl]
  · have member' : emptyGroup (s.scheduledAt (s.now + 5)).group = false := member
    simp [State.openScheduled, member']
    rfl
  · refine (State.openReached_iff rfl).mpr ?_
    simp only [State.now, State.scheduledAt]
    omega

/-- The lead that counts for a state: the largest of its group. -/
def State.groupLead (s : State) : Nat := s.largestLead s.group

theorem State.groupLead_congr {s t : State} (plan : t.plan.activePhase = s.plan.activePhase) (heads : t.heads = s.heads)
    (energy : t.energy = s.energy) (settings : t.settings = s.settings) : t.groupLead = s.groupLead := by
  rw [State.groupLead, State.groupLead, State.group_congr plan heads energy settings, State.largestLead_congr settings]

theorem State.enqueue_groupLead (s : State) (p : Port) (m : Message) : (s.enqueue p m).groupLead = s.groupLead :=
  State.groupLead_congr (by simp) (by simp) (by simp) (by simp)

theorem State.groupLead_le {s : State} {n : Nat} (short : ∀ h : Head, (s.settings.head.get h).lead ≤ n) : s.groupLead ≤ n := by
  obtain ⟨h, attained⟩ := s.largestLead_attained s.group
  rw [State.groupLead, attained, State.leadIn]
  split
  · exact short h
  · exact Nat.zero_le _

/-! ### The three ways on after a resume -/

theorem State.restarted_noSchedule {s : State} (left : s.restarted.exhausted = false) (powered : s.energy.effective ≠ .halt) :
    s.restarted.noSchedule = false :=
  State.noSchedule_false (by rw [State.restarted_sched]) left (by simpa using powered)

theorem State.resume_of_shortLead {s : State} (idle : s.frame = none) (left : s.restarted.exhausted = false)
    (powered : s.energy.effective ≠ .halt) (short : s.restarted.groupLead ≤ 4) :
    s.resume = s.restarted.scheduledAt (s.now + 5) := by
  have now : s.restarted.now = s.now := by simp [State.now]
  rw [State.resume_eq, ← now]
  exact State.reschedule_of_shortLead (by simp [State.restarted_frame, idle]) (State.restarted_noSchedule left powered)
    (by rw [State.restarted_sched, now]) (by rw [State.restarted_sched]) short

theorem State.resume_of_longLead {s : State} (idle : s.frame = none) (left : s.restarted.exhausted = false)
    (powered : s.energy.effective ≠ .halt) (long : 5 ≤ s.restarted.groupLead) :
    s.resume = (s.restarted.scheduledAt (s.now + 5)).openFrame (s.now + 5) s.restarted.group false := by
  have now : s.restarted.now = s.now := by simp [State.now]
  rw [State.resume_eq, ← now]
  exact State.reschedule_of_longLead (by simp [State.restarted_frame, idle]) (State.restarted_noSchedule left powered)
    (by rw [State.restarted_sched, now]) (by rw [State.restarted_sched]) long

/-- The schedule of a resumed part whose anchor is the due time. -/
theorem State.restarted_startSched (s : State) (time : Int) : s.restarted.startSched time =
    ⟨.running, some ⟨s.now + 5, .start⟩, some time, some time, some (time - s.restarted.groupLead),
      min (s.restarted.plan.activePhase.interval * s.energy.effective.stretch) 86400, min s.sched.skipped 65535⟩ := by
  rw [State.startSched, State.restarted_sched, ← State.groupLead]
  simp only [State.restarted_keeps]
  rfl

theorem State.resume_of_flight {s : State} (flight : s.frame.isSome = true) : s.resume = s.restarted := by
  rw [State.resume_eq, State.reschedule_of_frame]
  simpa [State.restarted_frame] using flight

theorem State.resume_of_noSchedule {s : State} (idle : s.frame = none) (stopped : s.restarted.noSchedule = true) :
    s.resume = { s.restarted with sched := s.restarted.sched.noDue } := by
  rw [State.resume_eq, State.reschedule_of_none (by simp [State.restarted_frame, idle]),
    State.computeDue_of_noSchedule stopped]
  exact State.tryOpen_of_ahead rfl

/-! ### The reply -/

theorem exec_seqResume {s : State} {p : Port} {tag : Byte} (accepted : s.Accepts .seqResume p) (held : s.sched.run = .held) :
    exec (.seqResume p tag) s = .next ((s.rxToHunt p).resume.enqueue p
      (replyMessage .seqResume tag (reply .ok (s.rxToHunt p).resume.resumeBytes))) := by
  have taken : (s.rxToHunt p).takeSeqResume = ((s.rxToHunt p).resume, reply .ok (s.rxToHunt p).resume.resumeBytes) := by
    simp [State.takeSeqResume, held]
  refine (congrArg Host.Outcome.next (State.request_taken accepted _)).trans ?_
  rw [taken]

theorem seqResume_queue {s : State} {p : Port} (accepted : s.Accepts .seqResume p) (m : Message) :
    (((s.rxToHunt p).resume.enqueue p m).ports.get p).queue = (s.ports.get p).queue ++ [m] := by
  refine State.enqueue_queue accepted.place ?_ m
  rw [State.resume_stationPort accepted.allowed]; simp

theorem seqResume_message (tag : Byte) (t : State) : replyMessage .seqResume tag (reply .ok t.resumeBytes) =
    ⟨[0xC1#8, tag, 0#8] ++ t.resumeBytes, none⟩ := rfl

theorem State.resumeBytes_of_noDue {t : State} {r : NoDueReason} (running : t.sched.run = .running) (due : t.sched.due = none)
    (opens : t.sched.openTime = none) (reason : t.noDueReason = r) :
    t.resumeBytes = [1#8] ++ optField 4 none ++ optField 4 none ++ f1 r.code := by
  rw [State.resumeBytes, running, due, opens, reason]; rfl

end Sys2Proof.Machine

namespace Sys2Proof.Proofs

open Sys2Proof.Machine

/-- Settles O17. -/
theorem resumeStartsTheSchedule : Obligations.ResumeStartsTheSchedule := by
  refine ⟨fun s p tag accepted held idle powered left => ?_, fun s p tag entered accepted held named =>
    ⟨fun f flight dueless openless => ?_, fun idle limit follows more powered short => ?_, fun reason idle why => ?_⟩⟩
  · refine ⟨_, exec_seqResume accepted held, ?_⟩
    have stays : (s.rxToHunt p).afterLimitMet = false := by
      rw [State.rxToHunt_afterLimitMet, State.afterLimitMet_of_not (.inl left)]
    have plan : (s.rxToHunt p).restarted.plan = s.plan := by rw [State.restarted_plan, stays]; simp
    have left' : (s.rxToHunt p).restarted.exhausted = false := by rwa [State.exhausted, plan]
    have lead : (s.rxToHunt p).restarted.groupLead = s.groupLead :=
      State.groupLead_congr (by rw [plan]) (by simp) (by simp) (by simp)
    have group : (s.rxToHunt p).restarted.group = s.group :=
      State.group_congr (by rw [plan]) (by simp) (by simp) (by simp)
    have time : (s.rxToHunt p).now = s.time.count := by simp [State.now]
    have scheduled : (s.rxToHunt p).restarted.startSched (s.time.count + 5) = ⟨.running, some ⟨s.time.count + 5, .start⟩,
        some (s.time.count + 5), some (s.time.count + 5), some (s.time.count + 5 - s.largestLead s.group),
        min (s.plan.activePhase.interval * s.energy.effective.stretch) 86400, min s.sched.skipped 65535⟩ := by
      rw [State.restarted_startSched, lead, plan, time]
      simp only [State.rxToHunt_keeps]
      rfl
    rcases Nat.lt_or_ge 4 (s.largestLead s.group) with long | short
    · obtain ⟨f, frame, same, memberships⟩ :=
        ((s.rxToHunt p).restarted.scheduledAt (s.time.count + 5)).openFrame_frame (s.time.count + 5) s.group false
      rw [State.resume_of_longLead (by simpa using idle) left' (by simpa using powered) (lead ▸ long), group, time]
      simp only [State.enqueue_keeps, State.openFrame_sched]
      rw [State.scheduledAt, scheduled] at *
      refine ⟨rfl, rfl, rfl, rfl, State.openFrame_activity _ _ _ _, fun short => absurd short (by omega), fun _ =>
        ⟨f, frame, by rw [same]; rfl, by rw [same]; rfl, ?_, by rw [same]; rfl, rfl, fun h =>
          (memberships h).trans (State.membersOf_isSome _ _ _ h)⟩⟩
      rw [same, ← restart_next]
      simp [State.newFrame]
    · rw [seqResume_queue accepted, State.resume_of_shortLead (s := s.rxToHunt p) (by simpa using idle) left'
        (by simpa using powered) (lead ▸ short), time]
      simp only [State.enqueue_keeps, State.scheduledAt]
      rw [scheduled]
      refine ⟨rfl, rfl, rfl, rfl, State.restarted_activity _, fun _ => ⟨?_, rfl, rfl, rfl, ?_⟩, fun long => ?_⟩
      · simp [State.restarted_frame, idle]
      · rfl
      · omega
  · have flight' : (s.rxToHunt p).frame.isSome = true := by simp [flight]
    refine ⟨_, exec_seqResume accepted held, ?_⟩
    rw [seqResume_queue accepted, State.resume_of_flight flight']
    simp only [State.enqueue_keeps, State.restarted_keeps, State.restarted_sched, State.rxToHunt_keeps, State.restarted_frame,
      flight, Option.map_some, and_true, true_and, State.now]
    refine ⟨State.restarted_activity _, fun limit follows => ⟨?_, fun st => ?_⟩, fun other => ?_, ?_⟩
    · rw [State.restarted_plan, State.rxToHunt_afterLimitMet, if_pos (State.afterLimitMet_of limit follows), named]
      simp only [State.rxToHunt_keeps]
      rfl
    · exact State.restarted_raised (by rw [State.rxToHunt_afterLimitMet, State.afterLimitMet_of limit follows]) st
    · have stays : (s.rxToHunt p).afterLimitMet = false := by
        rw [State.rxToHunt_afterLimitMet, State.afterLimitMet_of_not other]
      rw [State.restarted_of_staying stays]
      simp
    · rw [seqResume_message, State.resumeBytes_of_noDue (r := .inFrame)]
      · rfl
      · rw [State.restarted_sched]
      · simpa [State.restarted_sched] using dueless
      · simpa [State.restarted_sched] using openless
      · simp [State.noDueReason, State.restarted_sched, State.restarted_frame, dueless, flight]
  · have met : (s.rxToHunt p).afterLimitMet = true := by
      rw [State.rxToHunt_afterLimitMet, State.afterLimitMet_of limit follows]
    have plan : (s.rxToHunt p).restarted.plan = entered := by
      rw [State.restarted_plan, if_pos met, named]
      simp only [State.rxToHunt_keeps]
      rfl
    have left : (s.rxToHunt p).restarted.exhausted = false := by
      rw [State.exhausted, plan, named]
      simpa using more
    have time : (s.rxToHunt p).now = s.time.count := by simp [State.now]
    have short' : (s.rxToHunt p).restarted.groupLead ≤ 4 := State.groupLead_le (by simpa using short)
    have interval : entered.activePhase.interval = s.plan.successor.interval := by rw [named]; rfl
    have scheduled : ((s.rxToHunt p).restarted.scheduledAt (s.time.count + 5)).sched = ⟨.running,
        some ⟨s.time.count + 5, .start⟩, some (s.time.count + 5), some (s.time.count + 5),
        some (s.time.count + 5 - (s.rxToHunt p).restarted.groupLead),
        min (s.plan.successor.interval * s.energy.effective.stretch) 86400, min s.sched.skipped 65535⟩ := by
      rw [State.scheduledAt, State.restarted_startSched, plan, interval, time]
      simp only [State.rxToHunt_keeps]
    refine ⟨_, exec_seqResume accepted held, ?_⟩
    rw [seqResume_queue accepted, State.resume_of_shortLead (s := s.rxToHunt p) (by simpa using idle) left
      (by simpa using powered) short', time, ← State.groupLead, State.enqueue_groupLead, seqResume_message, State.resumeBytes]
    simp only [State.enqueue_keeps]
    rw [scheduled]
    refine ⟨plan, ?_, fun st => State.restarted_raised met st, rfl, rfl, rfl, rfl, rfl, rfl, rfl, ?_⟩
    · simp [State.scheduledAt, State.restarted_frame, idle]
    · rw [State.noDueReason, scheduled]
      rfl
  · have stays : (s.rxToHunt p).afterLimitMet = false := by
      rw [State.rxToHunt_afterLimitMet, State.afterLimitMet_of_not]
      rcases why with ⟨-, other, -⟩ | ⟨left, -, -⟩
      exacts [.inr other, .inl left]
    have plan : (s.rxToHunt p).restarted.plan = s.plan := by rw [State.restarted_plan, stays]; simp
    have stopped : (s.rxToHunt p).restarted.noSchedule = true := by
      refine State.noSchedule_true ?_
      rw [State.exhausted, plan]
      rcases why with ⟨limit, -, -⟩ | ⟨-, halted, -⟩
      exacts [.inr (.inl limit), .inr (.inr (by simpa using halted))]
    refine ⟨_, exec_seqResume accepted held, ?_⟩
    rw [seqResume_queue accepted, State.resume_of_noSchedule (by simpa using idle) stopped]
    simp only [State.enqueue_keeps]
    refine ⟨plan, by simp [State.restarted_frame, idle], ?_, ?_⟩
    · simp [State.restarted_sched, Scheduler.noDue]; rfl
    · rw [seqResume_message, State.resumeBytes_of_noDue (r := if s.exhausted then .exhausted else .halt) _ rfl rfl]
      · rcases why with ⟨limit, -, rfl⟩ | ⟨left, -, rfl⟩
        · rw [if_pos limit]; rfl
        · rw [if_neg (by simp [left])]; rfl
      · rcases why with ⟨limit, -, -⟩ | ⟨left, halted, -⟩ <;>
          simp_all [State.noDueReason, Scheduler.noDue, State.restarted_sched, State.restarted_frame, State.exhausted]
      · rw [State.restarted_sched]; rfl

end Sys2Proof.Proofs

/-! ## Steps, the passing of time, and the meter's events -/

namespace Sys2Proof.Machine

/-! ### An idle step -/

theorem step_of_idle {s : State} (waiting : s.pending = []) : step s = idle s := by simp [step, waiting]

theorem idle_of_event {s : State} {e : Instr} (due : s.dueEvent = some e) : idle s = exec e s := by simp [idle, due]

theorem idle_of_none {s : State} (due : s.dueEvent = none) : idle s = .next s.tick := by simp [idle, due]

/-- The event of the first timer of a list that stands at 0. -/
def firstDue (timers : List (Option Nat × Instr)) : Option Instr :=
  (timers.find? (fun x => x.1 == some 0)).map (fun x => x.2)

theorem firstDue_cons (t : Option Nat) (e : Instr) (rest : List (Option Nat × Instr)) :
    firstDue ((t, e) :: rest) = if timerDue t then some e else firstDue rest := by
  cases due : t == some 0 <;> simp [firstDue, timerDue, due]

theorem firstDue_nil : firstDue [] = none := rfl

theorem firstDue_append (a b : List (Option Nat × Instr)) : firstDue (a ++ b) = (firstDue a).or (firstDue b) := by
  simp [firstDue, List.find?_append, Option.map_or]

theorem State.headEvent_eq (s : State) (h : Head) : s.headEvent h = firstDue
    [((s.heads.get h).hello, Instr.helloTimerExpiry h), ((s.heads.get h).ready, .readyTimerExpiry h),
      ((s.heads.get h).result, .resultTimerExpiry h), ((s.triggers.get h).bulb, .bulbTimerExpiry h),
      ((s.triggers.get h).pulse, .pulseWidthElapsed h), ((s.heads.get h).grace, .graceTimerExpiry h),
      ((s.heads.get h).standby, .standbyTimerExpiry h)] := by
  simp only [firstDue_cons]
  rfl

theorem State.firstDue_port (s : State) (q : Port) (rest : List (Option Nat × Instr)) :
    firstDue (((s.ports.get q).interByte, Instr.interByteTimerExpiry q) :: rest) = (s.portEvent q).or (firstDue rest) := by
  rw [firstDue_cons, State.portEvent]
  split <;> rfl

theorem ite_some_or {α : Type} (c : Prop) [Decidable c] (e : Option α) (x : α) (r : Option α) :
    (if c then some x else e).or r = if c then some x else e.or r := by
  split <;> rfl

/-! ### Events of a running part -/

theorem State.whileRunning_of_runs {s : State} (runs : s.runs = true) (f : State → State) : s.whileRunning f = f s :=
  if_pos runs

theorem exec_pulseEdge {s : State} (runs : s.runs = true) (e : Edge) :
    exec (.pulseEdge e) s = .next { s with meter := s.meter.pulse e } :=
  congrArg Host.Outcome.next (State.whileRunning_of_runs runs _)

theorem exec_periodTimerExpiry {s : State} (runs : s.runs = true) (set : s.meter.periodTimer.isSome = true) :
    exec .periodTimerExpiry s =
      .next ({ s with meter := { s.meter with periodTimer := none } } : State).askReading := by
  simp [exec, execPeriodTimerExpiry, State.whileRunning_of_runs runs, set]

theorem exec_settleElapsed {s : State} (runs : s.runs = true) (settling : s.meter.activity = .settling) :
    exec .settleElapsed s = .next { s with meter := s.meter.openGate } := by
  simp [exec, execSettleElapsed, State.whileRunning_of_runs runs, settling]

/-! ### The voltage tier -/

theorem Tier.rank_inj {a b : Tier} (same : a.rank = b.rank) : a = b := by
  cases a <;> cases b <;> simp_all [Tier.rank]

theorem zero_or_tierChanged : 0#10 ||| Event.tierChanged.mask = 16#10 := by decide

theorem worse_normal (t : Tier) : worse t .normal = t := by cases t <;> rfl

section

variable {st : Settings} {m v : Nat}

theorem tierAt_halt (low : v < st.haltThreshold + m) : tierAt st m v = .halt := if_pos low

theorem tierAt_reserve (clears : st.haltThreshold + m ≤ v) (low : v < st.reserveThreshold + m) : tierAt st m v = .reserve := by
  rw [tierAt, if_neg (by omega), if_pos low]

theorem tierAt_economy (clears : st.haltThreshold + m ≤ v) (clears' : st.reserveThreshold + m ≤ v)
    (low : v < st.economyThreshold + m) : tierAt st m v = .economy := by
  rw [tierAt, if_neg (by omega), if_neg (by omega), if_pos low]

theorem tierAt_normal (clears : st.haltThreshold + m ≤ v) (clears' : st.reserveThreshold + m ≤ v)
    (clears'' : st.economyThreshold + m ≤ v) : tierAt st m v = .normal := by
  rw [tierAt, if_neg (by omega), if_neg (by omega), if_neg (by omega)]

theorem tierAt_rank_le_two (clears : st.haltThreshold + m ≤ v) : (tierAt st m v).rank ≤ 2 := by
  rw [tierAt, if_neg (by omega)]
  split
  · exact le_rfl
  · split <;> decide

theorem tierAt_rank_le_one (clears : st.haltThreshold + m ≤ v) (clears' : st.reserveThreshold + m ≤ v) :
    (tierAt st m v).rank ≤ 1 := by
  rw [tierAt, if_neg (by omega), if_neg (by omega)]
  split <;> decide

theorem two_le_tierAt_rank (low : v < st.reserveThreshold + m) : 2 ≤ (tierAt st m v).rank := by
  rw [tierAt, if_pos low]
  split <;> decide

theorem one_le_tierAt_rank (low : v < st.economyThreshold + m) : 1 ≤ (tierAt st m v).rank := by
  rw [tierAt, if_pos low]
  split
  · decide
  · split <;> decide

/-- A margin only makes the tier worse. -/
theorem tierAt_rank_mono (st : Settings) (m v : Nat) : (tierAt st 0 v).rank ≤ (tierAt st m v).rank := by
  by_cases halt : v < st.haltThreshold + m
  · rw [tierAt_halt halt]; cases tierAt st 0 v <;> decide
  by_cases reserve : v < st.reserveThreshold + m
  · rw [tierAt_reserve (by omega) reserve]; exact tierAt_rank_le_two (by omega)
  by_cases economy : v < st.economyThreshold + m
  · rw [tierAt_economy (by omega) (by omega) economy]; exact tierAt_rank_le_one (by omega) (by omega)
  · rw [tierAt_normal (by omega) (by omega) (by omega), tierAt_normal (by omega) (by omega) (by omega)]

variable {standing : Tier}

/-- A tier no worse than the one the reading obliges gives way to it. -/
theorem judgeVoltage_of_descent (worse : standing.rank ≤ (tierAt st 0 v).rank) :
    judgeVoltage st standing v = tierAt st 0 v := by
  have mono := tierAt_rank_mono st st.tierHysteresis v
  simp only [judgeVoltage]
  split
  · rfl
  · rw [if_neg (by omega)]
    exact Tier.rank_inj (by omega)

/-- A tier no better than the one that the raised thresholds leave gives way to that one. -/
theorem judgeVoltage_of_ascent (better : (tierAt st st.tierHysteresis v).rank ≤ standing.rank) :
    judgeVoltage st standing v = tierAt st st.tierHysteresis v := by
  have mono := tierAt_rank_mono st st.tierHysteresis v
  simp only [judgeVoltage]
  rw [if_neg (by omega)]
  split
  · rfl
  · exact Tier.rank_inj (by omega)

/-- A tier between the two stays. -/
theorem judgeVoltage_of_between (low : (tierAt st 0 v).rank ≤ standing.rank)
    (high : standing.rank ≤ (tierAt st st.tierHysteresis v).rank) : judgeVoltage st standing v = standing := by
  simp only [judgeVoltage]
  rw [if_neg (by omega), if_neg (by omega)]

end

/-! ### A part that stops -/

theorem State.goDark_head (s : State) (h : Head) : s.goDark.heads.get h = (s.heads.get h).enter .off := by cases h <;> rfl

theorem State.goDark_trigger (s : State) (h : Head) :
    s.goDark.triggers.get h = inactiveTrigger (s.settings.head.get h).polarity := by cases h <;> rfl

theorem State.goDark_port (s : State) (q : Port) : s.goDark.ports.get q = (s.ports.get q).dark := by cases q <;> rfl

end Sys2Proof.Machine

namespace Sys2Proof.Proofs

open Sys2Proof.Machine

/-- Settles O1. -/
theorem stepTakesFrontCommand : Obligations.StepTakesFrontCommand := fun _ _ _ => rfl

/-- Settles O2. -/
theorem idlePartLetsTimePass : Obligations.IdlePartLetsTimePass := by
  refine ⟨fun s waiting => ⟨fun e due => ?_, fun due runs => ?_, fun due stopped => ?_⟩, fun s t n elapsed => ?_,
    fun s => ⟨fun full => if_pos full, fun short stopped => ?_, fun short runs => ?_⟩⟩
  · rw [step_of_idle waiting, idle_of_event due]
  · rw [step_of_idle waiting, idle_of_none due, State.tick, if_pos runs]
  · rw [step_of_idle waiting, idle_of_none due, State.tick, if_neg (by simp [stopped])]
  · subst elapsed
    refine ⟨rfl, fun h => ⟨Four.get_map _ _ _, Four.get_map _ _ _, ?_⟩, fun q => Six.get_map _ _ _⟩
    refine (Four.get_map _ _ _).trans ?_
    rw [OnTime.elapse]
    split
    · next running => rw [saturate, running]
    · rfl
  · simp [State.dueEvent, short, stopped]
  · rw [State.dueEvent, if_neg (by omega), if_pos runs, ← firstDue]
    simp only [firstDue_append, List.flatMap_cons, List.flatMap_nil, List.map_cons, List.map_nil, ← State.headEvent_eq,
      State.firstDue_port, Option.or_assoc]
    simp only [firstDue_cons, firstDue_nil, ite_some_or, Option.none_or, Option.or_none, State.runningEvent]

/-- Settles O48. -/
theorem meterEventsRunTheReading : Obligations.MeterEventsRunTheReading := by
  refine fun s e runs => ⟨fun gating edge => ?_, fun other => ?_, fun settling => exec_settleElapsed runs settling,
    fun set busy => ?_, fun set free settle => ?_, fun set free settle => ?_⟩
  · rw [exec_pulseEdge runs, Meter.pulse, if_pos ⟨gating, edge⟩]
    simp [saturate, Config.maxPulses]
  · rw [exec_pulseEdge runs, Meter.pulse, if_neg (by tauto)]
  · rw [exec_periodTimerExpiry runs set, State.askReading, if_neg busy]
  · rw [exec_periodTimerExpiry runs set, State.askReading, if_pos free, Meter.start,
      show (s.settings.settle == 0) = false by simp; omega]
    rfl
  · rw [exec_periodTimerExpiry runs set, State.askReading, if_pos free, Meter.start, settle]
    rfl

/-- Settles O51. -/
theorem voltageTierHasHysteresis : Obligations.VoltageTierHasHysteresis := by
  refine fun st standing v => ⟨fun low => ?_, fun clears low stands => ?_, fun clears low stands => ?_,
    fun halt reserve economy => ?_, fun halt reserve low stands => ?_, fun halt low stands => ?_,
    fun halt reserve low stands => ?_, fun halt reserve low stands => ?_, fun halt reserve low stands => ?_,
    fun halt reserve economy stands => ?_⟩
  · have descent : tierAt st 0 v = .halt := tierAt_halt low
    rw [judgeVoltage_of_descent (by rw [descent]; cases standing <;> decide), descent]
  · subst stands
    exact judgeVoltage_of_between ((tierAt_rank_le_two clears).trans (by decide)) (by rw [tierAt_halt low])
  · have ascent := tierAt_reserve clears low
    rw [judgeVoltage_of_ascent (by rw [ascent, stands]; decide), ascent]
  · have ascent := tierAt_normal halt reserve economy
    rw [judgeVoltage_of_ascent (by rw [ascent]; exact Nat.zero_le _), ascent]
  · have descent : tierAt st 0 v = .economy := tierAt_economy halt reserve low
    rw [judgeVoltage_of_descent (by rw [descent, stands]; decide), descent]
  · have descent : tierAt st 0 v = .reserve := tierAt_reserve halt low
    rw [judgeVoltage_of_descent (by rw [descent]; rcases stands with rfl | rfl <;> decide), descent]
  · subst stands
    exact judgeVoltage_of_between (tierAt_rank_le_two halt) (two_le_tierAt_rank low)
  · subst stands
    exact judgeVoltage_of_between (tierAt_rank_le_one halt reserve) (one_le_tierAt_rank low)
  · have ascent := tierAt_economy halt reserve low
    rw [judgeVoltage_of_ascent (by rw [ascent]; rcases stands with rfl | rfl <;> decide), ascent]
  · have descent : tierAt st 0 v = .normal := tierAt_normal halt reserve economy
    rw [judgeVoltage_of_descent (by rw [stands]; exact Nat.zero_le _), descent]

/-- Settles O52. -/
theorem stoppingKeepsTheRetentionDomain : Obligations.StoppingKeepsTheRetentionDomain := by
  refine fun s i supply stops => ⟨{ s.goDark with supply := supply }, ?_, rfl, ?_, fun h => ?_, rfl, fun st => ?_, fun q => ?_,
    rfl, rfl, rfl, rfl, rfl, rfl, rfl, rfl, rfl⟩
  · rcases stops with ⟨rfl, rfl⟩ | ⟨rfl, rfl⟩ <;> rfl
  · rcases stops with ⟨-, rfl⟩ | ⟨-, rfl⟩ <;> simp [State.runs]
  · have rail : ({ s.goDark with supply := supply } : State).rail h = false := by
      rw [State.rail, show ({ s.goDark with supply := supply } : State).heads = s.goDark.heads from rfl, State.goDark_head]
      rfl
    simp only [State.goDark_trigger, State.goDark_head]
    exact ⟨rail, ⟨rfl, rfl, rfl⟩, by cases (s.settings.head.get h).polarity <;> rfl, rfl, rfl⟩
  · have stopped : ({ s.goDark with supply := supply } : State).runs = false := by
      rcases stops with ⟨-, rfl⟩ | ⟨-, rfl⟩ <;> simp [State.runs]
    rw [State.attn, stopped, Bool.false_and]
  · simp only [State.goDark_port]
    exact ⟨rfl, rfl⟩

/-- Settles O53. -/
theorem coldStartIsReset : Obligations.ColdStartIsReset := by
  rintro s shown input v tier shows rfl rfl
  have present : s.bsense.present shown = input := by rw [shows]; cases shown <;> rfl
  refine congrArg Host.Outcome.next ?_
  rw [State.coldStarted, present]
  simp only [State.measure, State.judgeTier, State.takeReading, batteryMillivolts, Config.maxMillivolts, State.reset, Energy.cold,
    BudgetFloor.tier, worse_normal]
  split
  · next normal => rw [normal]
  · simp only [State.raiseBoth, State.raiseAt, State.modStation, Two.set, Two.get, Two.all, zero_or_tierChanged]

end Sys2Proof.Proofs

/-! ## A reading completes -/

namespace Sys2Proof.Machine

theorem exec_readingCompletion {s : State} (runs : s.runs = true) (gating : s.meter.activity = .gating) :
    exec .readingCompletion s = .next s.completeReading := by
  simp [exec, execReadingCompletion, State.whileRunning_of_runs runs, gating]

/-! ### The reading -/

theorem readingStateOf_dark {st : Settings} {previous : Option Int} {bv : Int} : readingStateOf st previous 0 bv = .dark := rfl

theorem readingStateOf_saturated {st : Settings} {previous : Option Int} {count : Nat} {bv : Int} (full : 1048575 ≤ count) :
    readingStateOf st previous count bv = .saturated := by
  unfold readingStateOf
  rw [if_neg (by omega), if_pos (by simpa [Config.maxPulses] using full)]

/-- A count between the ends is STABLE within the hysteresis of the one before it, and UNSTABLE otherwise. -/
theorem readingStateOf_between {st : Settings} {previous : Option Int} {count : Nat} {bv : Int} (some_ : 0 < count)
    (below : count < 1048575) :
    (readingStateOf st previous count bv = .stable ↔ ∃ v : Int, previous = some v ∧ (bv - v).natAbs ≤ st.hysteresis)
      ∧ (readingStateOf st previous count bv = .stable ∨ readingStateOf st previous count bv = .unstable) := by
  unfold readingStateOf
  rw [if_neg (by omega), if_neg (by simpa [Config.maxPulses] using below)]
  cases previous with
  | none => simp
  | some level =>
    by_cases near : (bv - level).natAbs ≤ st.hysteresis <;> simp [near]

/-- The state of a reading is told by the clauses of its table. -/
theorem readingStateOf_eq {st : Settings} {previous : Option Int} {count : Nat} {bv : Int} {x : ReadingState}
    (dark : count = 0 → x = .dark) (saturated : 1048575 ≤ count → x = .saturated)
    (stable : 0 < count → count < 1048575 →
      (x = .stable ↔ ∃ v : Int, previous = some v ∧ (bv - v).natAbs ≤ st.hysteresis))
    (unstable : 0 < count → count < 1048575 → x = .stable ∨ x = .unstable) :
    readingStateOf st previous count bv = x := by
  rcases Nat.eq_zero_or_pos count with zero | pos
  · rw [dark zero, zero, readingStateOf_dark]
  rcases Nat.lt_or_ge count 1048575 with below | full
  · obtain ⟨iff, either⟩ := readingStateOf_between (st := st) (previous := previous) (bv := bv) pos below
    have same := iff.trans (stable pos below).symm
    rcases unstable pos below with rfl | rfl
    · exact same.mpr rfl
    · exact either.resolve_left fun h => by simpa using same.mp h
  · rw [saturated full, readingStateOf_saturated full]

/-! ### What the Plan Controller makes of it -/

/-- The part with its meter's record replaced. -/
def State.read (s : State) (r : Reading) : State := { s with meter := s.meter.complete r }

/-- The confirm counter set. -/
def State.withConfirm (s : State) (n : Nat) : State := { s with plan := { s.plan with confirm := n } }

theorem State.completeReading_of_held {s : State} (held : s.sched.run = .held) :
    s.completeReading = s.read s.completedReading := by
  simp [State.completeReading, State.judgeLight, held, State.read]

theorem State.completeReading_of_noLight {s : State} (running : s.sched.run = .running)
    (other : satisfiesStart s.completedReading s.plan.successor.start = none) :
    s.completeReading = s.read s.completedReading := by
  simp [State.completeReading, State.judgeLight, running, other, confirmAfter, State.read]

section

variable {s : State} {confirm : Nat} {sat : Bool} (running : s.sched.run = .running)
  (light : satisfiesStart s.completedReading s.plan.successor.start = some sat)
  (needed : confirm? s.plan.successor.start = some confirm)

include running light needed

/-- Short of the confirm count the counter moves and nothing else follows. -/
theorem State.completeReading_of_short {n : Nat}
    (after : confirmAfter s.plan s.completedReading (s.meter.latest.map (·.state)) = n) (short : n < confirm) :
    s.completeReading = (s.read s.completedReading).withConfirm n := by
  have unmet : Plan.confirmed { s.plan with confirm := n } = false := by
    have : confirm? (Plan.successor { s.plan with confirm := n }).start = some confirm := needed
    simp [Plan.confirmed, this, short]
  simp [State.completeReading, State.judgeLight, running, light, after, unmet, State.read, State.withConfirm]

/-- At the confirm count the successor is entered. -/
theorem State.completeReading_of_confirmed {n : Nat}
    (after : confirmAfter s.plan s.completedReading (s.meter.latest.map (·.state)) = n) (reached : confirm ≤ n) :
    s.completeReading =
      (((s.read s.completedReading).withConfirm n).enterPhase s.plan.successorIndex).reschedule := by
  have met : Plan.confirmed { s.plan with confirm := n } = true := by
    have : confirm? (Plan.successor { s.plan with confirm := n }).start = some confirm := needed
    simp [Plan.confirmed, this, reached]
  simp [State.completeReading, State.judgeLight, running, light, after, met, State.read, State.withConfirm]
  rfl

end

theorem countsStable_iff (r : Reading) (previous : Option ReadingState) : countsStable r previous = true ↔
    r.state = .stable ∨ (r.state = .dark ∧ previous = some .dark) ∨ (r.state = .saturated ∧ previous = some .saturated) := by
  cases state : r.state <;> simp [countsStable, state]

theorem satisfiesStart_onDarker (r : Reading) (t : Int) (c : Nat) : satisfiesStart r (.onDarker t c) =
    some (decide (r.state = .dark ∨ (r.state ≠ .saturated ∧ r.bv ≤ t))) := by
  cases state : r.state <;> simp [satisfiesStart, state]

theorem satisfiesStart_onBrighter (r : Reading) (t : Int) (c : Nat) : satisfiesStart r (.onBrighter t c) =
    some (decide (r.state = .saturated ∨ (r.state ≠ .dark ∧ t ≤ r.bv))) := by
  cases state : r.state <;> simp [satisfiesStart, state]

/-- The counter after a reading that is judged against a light-dependent start. -/
theorem confirmAfter_of_light {pl : Plan} {r : Reading} {previous : Option ReadingState} {sat : Bool}
    (light : satisfiesStart r pl.successor.start = some sat) : confirmAfter pl r previous =
      if countsStable r previous then (if sat then pl.confirm + 1 else 0) else pl.confirm := by
  simp [confirmAfter, light]

end Sys2Proof.Machine

namespace Sys2Proof.Proofs

open Sys2Proof.Machine

/-- Settles O49. -/
theorem readingCompletes : Obligations.ReadingCompletes := by
  refine ⟨fun s r runs gating count gate time bv dark saturated stable unstable => ?_, fun c g => ⟨fun few => ?_,
    fun low high => ?_, fun many => ?_⟩, rfl, rfl, rfl⟩
  · have state := readingStateOf_eq dark saturated stable unstable
    have reading : s.completedReading = r := by
      obtain ⟨_, _, _, _, _⟩ := r
      simp only at count gate time bv state
      subst count gate time bv state
      rfl
    have record : s.read s.completedReading = { s with meter := { s.meter with
        activity := .idle, settleTimer := none, gateTimer := none, latest := some r
        previousState := s.meter.latest.map (·.state), previousLevel := some r.bv
        gateSelection := nextGate s.meter.pulses s.meter.readingGate } } := by
      rw [State.read, Meter.complete, reading, count, gate]
    rw [exec_readingCompletion runs gating]
    refine ⟨s.read s.completedReading, record, fun held => ?_, fun running => ⟨fun v start => ?_, fun start => ?_⟩,
      fun running threshold confirm counts meets counted light => ?_⟩
    · rw [State.completeReading_of_held held]
    · rw [State.completeReading_of_noLight running (by rw [start]; rfl)]
    · rw [State.completeReading_of_noLight running (by rw [start]; rfl)]
    · have needed : confirm? s.plan.successor.start = some confirm := by
        rcases light with ⟨start, -⟩ | ⟨start, -⟩ <;> rw [start] <;> rfl
      obtain ⟨sat, satisfied, met⟩ : ∃ sat : Bool,
          satisfiesStart s.completedReading s.plan.successor.start = some sat ∧ (sat = true ↔ meets) := by
        rw [reading]
        rcases light with ⟨start, met⟩ | ⟨start, met⟩
        · exact ⟨_, by rw [start, satisfiesStart_onDarker], by rw [decide_eq_true_iff, met]⟩
        · exact ⟨_, by rw [start, satisfiesStart_onBrighter], by rw [decide_eq_true_iff, met]⟩
      have counts' : countsStable r (s.meter.latest.map (·.state)) = true ↔ counts :=
        (countsStable_iff _ _).trans counted.symm
      have after := confirmAfter_of_light (previous := s.meter.latest.map (·.state)) satisfied
      refine ⟨fun not short => ?_, fun yes hit short => ?_, fun yes miss some_ => ?_, fun yes hit reached => ?_⟩
      · rw [reading, if_neg (by rwa [counts'])] at after
        rw [State.completeReading_of_short running satisfied needed (reading ▸ after) short]
        rfl
      · rw [reading, if_pos (counts'.mpr yes), if_pos (met.mpr hit)] at after
        rw [State.completeReading_of_short running satisfied needed (reading ▸ after) short]
        rfl
      · rw [reading, if_pos (counts'.mpr yes), if_neg (by rwa [met])] at after
        rw [State.completeReading_of_short running satisfied needed (reading ▸ after) some_]
        rfl
      · rw [reading, if_pos (counts'.mpr yes), if_pos (met.mpr hit)] at after
        rw [State.completeReading_of_confirmed running satisfied needed (reading ▸ after) reached]
        refine ⟨_, rfl, ?_⟩
        simp only [State.reschedule_keeps]
        exact ⟨rfl, rfl, rfl, rfl, fun st => State.reschedule_events _ st _ (State.enterPhase_raised _ _ st)⟩
  · cases g <;> simp [nextGate, few]
  · unfold nextGate
    rw [if_neg (by omega), if_neg (by omega)]
  · unfold nextGate
    rw [if_neg (by omega), if_pos many]
    cases g <;> simp

end Sys2Proof.Proofs

/-! ## HELLO, READY and RESULT out of place; the ticket; the end of exposure and pulse -/

namespace Sys2Proof.Machine

/-! ### A head's messages -/

theorem headTake_headPort (h : Head) (take : Head → State → State × Reply) : headTake (headPort h) take = take h := by
  funext s; rw [headTake, portHead_headPort]

theorem State.accepts_headPort {s : State} {h : Head} {k : Kind} (runs : s.runs = true) (place : s.hasPlace (headPort h) = true)
    (group : k.group = .head) : s.Accepts k (headPort h) :=
  ⟨runs, place, by rw [group]; cases h <;> rfl⟩

section

variable {s u : State} {h : Head} {tag : Byte} {st : Status} {fields : List Byte} (runs : s.runs = true)
  (place : s.hasPlace (headPort h) = true)

include runs place

/-- A HELLO whose block leaves the ports alone. -/
theorem exec_hello (taken : (s.rxToHunt (headPort h)).takeHello h = (u.rxToHunt (headPort h), reply st fields))
    (ports : u.ports = s.ports) :
    exec (.hello (headPort h) tag) s = .next (u.answer (headPort h) .hello tag st fields) :=
  State.exec_plain (State.accepts_headPort runs place rfl) (by rw [headTake_headPort]; exact taken) ports

/-- A READY whose block leaves the ports alone. -/
theorem exec_ready {q : BitVec 32}
    (taken : (s.rxToHunt (headPort h)).takeReady h q.toNat = (u.rxToHunt (headPort h), reply st fields))
    (ports : u.ports = s.ports) :
    exec (.ready (headPort h) tag q) s = .next (u.answer (headPort h) .ready tag st fields) :=
  State.exec_plain (State.accepts_headPort runs place rfl) (by rw [headTake_headPort]; exact taken) ports

/-- A RESULT whose block leaves the ports alone. -/
theorem exec_result {q : BitVec 32} {level free : BitVec 16} {flags : Byte}
    (taken : (s.rxToHunt (headPort h)).takeResult h q.toNat level.toNat free.toNat (flags.getLsbD 0)
      = (u.rxToHunt (headPort h), reply st fields))
    (ports : u.ports = s.ports) :
    exec (.result (headPort h) tag q level free flags) s = .next (u.answer (headPort h) .result tag st fields) :=
  State.exec_plain (State.accepts_headPort runs place rfl) (by rw [headTake_headPort]; exact taken) ports

end

section

variable {s : State} {h : Head} {f : Frame} {m : Member} {n level free : Nat} {keepOff : Bool}

/-- With no part in a frame all three are turned away. -/
theorem State.takeMessages_of_stranger (stranger : s.member h = none) :
    s.takeHello h = (s, bare .idle) ∧ s.takeReady h n = (s, bare .idle)
      ∧ s.takeResult h n level free keepOff = (s, bare .late) := by
  cases frame : s.frame with
  | none => simp [State.takeHello, State.takeReady, State.takeResult, frame]
  | some f =>
    have none : f.members.get h = none := by simpa [State.member, frame] using stranger
    simp [State.takeHello, State.takeReady, State.takeResult, frame, none]

/-- A member that is decided is too late with all three, but for the repeated RESULT of a DONE one. -/
theorem State.takeMessages_of_decided {o : EntryOutcome} (frame : s.frame = some f) (member : f.members.get h = some m)
    (decided : m.outcome = some o) :
    s.takeHello h = (s, bare .late) ∧ s.takeReady h n = (s, bare .late)
      ∧ s.takeResult h n level free keepOff = (s, if o = .done ∧ n = f.sequence then doneReply else bare .late) := by
  simp [State.takeHello, State.takeReady, State.takeResult, frame, member, decided]

theorem State.takeHello_of_undecided (frame : s.frame = some f) (member : f.members.get h = some m)
    (open_ : m.outcome = none) : s.takeHello h = s.takeMemberHello f h := by
  simp [State.takeHello, frame, member, open_]

theorem State.takeReady_of_undecided (frame : s.frame = some f) (member : f.members.get h = some m)
    (open_ : m.outcome = none) : s.takeReady h n = s.takeMemberReady f h n := by
  simp [State.takeReady, frame, member, open_]

/-- A RESULT outside EXPOSING and REPORTING, or with another sequence, is not expected. -/
theorem State.takeResult_of_notExpected (frame : s.frame = some f) (member : f.members.get h = some m)
    (open_ : m.outcome = none)
    (unexpected : ((s.heads.get h).state ≠ .exposing ∧ (s.heads.get h).state ≠ .reporting) ∨ n ≠ f.sequence) :
    s.takeResult h n level free keepOff = (s, bare .notExpected) := by
  cases state : (s.heads.get h).state <;>
    simp_all [State.takeResult]

/-- A READY outside TICKETED and ARMED, or with another sequence, is not expected. -/
theorem State.takeReady_of_notExpected (frame : s.frame = some f) (member : f.members.get h = some m)
    (open_ : m.outcome = none)
    (unexpected : ((s.heads.get h).state ≠ .ticketed ∧ (s.heads.get h).state ≠ .armed) ∨ n ≠ f.sequence)
    (awake : (s.heads.get h).state ≠ .closing) : s.takeReady h n = (s, bare .notExpected) := by
  rw [State.takeReady_of_undecided frame member open_]
  cases state : (s.heads.get h).state <;> simp_all [State.takeMemberReady]

theorem State.openPart_of_undecided (open_ : s.undecided h = true) :
    ∃ (f : Frame) (m : Member), s.frame = some f ∧ f.members.get h = some m ∧ m.outcome = none := by
  obtain ⟨m, member, open_⟩ := (s.undecided_iff h).mp open_
  cases frame : s.frame with
  | none => simp [State.member, frame] at member
  | some f => exact ⟨f, m, rfl, by simpa [State.member, frame] using member, open_⟩

theorem State.takeMemberHello_of_asleep (asleep : (s.heads.get h).state = .off ∨ (s.heads.get h).state = .standby) :
    s.takeMemberHello f h = (s, bare .idle) := by
  rcases asleep with state | state <;> simp [State.takeMemberHello, state]

theorem State.takeMemberHello_of_active (active : (s.heads.get h).state = .exposing ∨ (s.heads.get h).state = .reporting) :
    s.takeMemberHello f h = (s, bare .notExpected) := by
  rcases active with state | state <;> simp [State.takeMemberHello, state]

/-- A HELLO in TICKETED or ARMED has its ticket issued again. -/
theorem State.takeMemberHello_of_standing (state : (s.heads.get h).state = .ticketed ∨ (s.heads.get h).state = .armed)
    (stands : s.ticketStands f h = true) : s.takeMemberHello f h = (s, reply .ok (s.ticketBytes f h)) := by
  rcases state with state | state <;> simp [State.takeMemberHello, state, State.askTicket, stands, State.ticketReply]

/-- A ticket that stands is issued again from the ramp record, its need from the entry where the record has none. -/
theorem State.ticketBytes_of_standing {k : TicketPart} {y : TicketSummary} (member : f.members.get h = some m)
    (ticket : m.ticket = some k) (last : (s.ramps.get h).lastTicket = some y) :
    s.ticketBytes f h = leBytes 4 f.sequence ++ leBytes 1 (headCode h) ++ leBytes 4 f.due ++ leBytes 4 y.exposure
      ++ leBytes 2 y.gain ++ leBytes 2 y.aperture ++ leBytes 2 ((s.ramps.get h).need.getD k.need)
      ++ leBytes 2 f.phase.targetLevel ++ leBytes 1 (s.settings.head.get h).triggerMode.code ++ [ticketFlagsByte y.flags] := by
  cases need : (s.ramps.get h).need <;> simp [State.ticketBytes, State.ticketNeed, last, need, member, ticket] <;> rfl

end

/-! ### The ticket of a HELLO -/

/-- A woken member with the figures of its ticket: record, entry and head written. -/
def State.ticketedWith (s : State) (f : Frame) (h : Head) (x : TicketFigures) : State :=
  { s with
    heads := s.heads.set h { s.heads.get h with
      state := .ticketed, hello := none, result := none, grace := none, standby := none
      ready := if f.phase.sync = .free then some ((s.settings.head.get h).readyTimeout * 1000) else none }
    ramps := s.ramps.set h { s.ramps.get h with
      need := some x.need, lastTicket := some ⟨f.sequence, x.exposure, x.gain, x.aperture, x.flags⟩ }
    frame := some (f.ticketed h x (s.settings.head.get h).triggerMode s.meter.latest) }

theorem State.enterTicketed_askTicket {s : State} {f : Frame} {h : Head} (fresh : s.ticketStands f h = false) :
    (s.askTicket f h).enterTicketed f h = s.ticketedWith f h (s.ticketInputs f h).compute := by
  rw [State.askTicket, if_neg (by simp [fresh])]
  cases sync : f.phase.sync <;>
    simp [State.enterTicketed, State.computeTicket, State.ticketedWith, sync, State.modHead, State.modRamp, HeadSeq.enter,
      RampRecord.ticketed, State.headSettings, secondsMs]

theorem State.ticketBytes_of_ticketed (s : State) (f : Frame) (h : Head) (x : TicketFigures) :
    (s.ticketedWith f h x).ticketBytes f h = leBytes 4 f.sequence ++ leBytes 1 (headCode h) ++ leBytes 4 f.due
      ++ leBytes 4 x.exposure ++ leBytes 2 x.gain ++ leBytes 2 x.aperture ++ leBytes 2 x.need
      ++ leBytes 2 f.phase.targetLevel ++ leBytes 1 (s.settings.head.get h).triggerMode.code ++ [ticketFlagsByte x.flags] := by
  simp [State.ticketBytes, State.ticketNeed, State.ticketedWith]
  rfl

theorem Frame.noTicketYet_iff (f : Frame) : f.noTicketYet = true ↔
    ∀ (k : Head) (n : Member), f.members.get k = some n → n.ticket = none := by
  rw [Frame.noTicketYet, allHeads_iff]
  refine forall_congr' fun k => ?_
  cases f.members.get k <;> simp

/-! ### The exposure end -/

theorem releaseTrigger_eq (pol : Polarity) (t : Trigger) : releaseTrigger pol t =
    { t with asserted := false, level := decide (pol = .activeLow), pulse := none } := by
  cases pol <;> rfl

theorem State.release_eq (s : State) (h : Head) : s.release h = { s with
    triggers := s.triggers.set h { s.triggers.get h with
      asserted := false, level := decide ((s.settings.head.get h).polarity = .activeLow), pulse := none } } := by
  rw [State.release, State.modTrigger, releaseTrigger_eq]; rfl

/-- The head in REPORTING after its exposure, its trigger as given. -/
def State.reportingWith (s : State) (h : Head) (x : Trigger) : State :=
  { s with
    heads := s.heads.set h { s.heads.get h with
      state := .reporting, hello := none, ready := none, grace := none, standby := none
      result := some ((s.settings.head.get h).resultTimeout * 1000) }
    triggers := s.triggers.set h x }

/-- The exposure ends in EXPOSING: a BULB trigger is released, a TIMED one keeps its pulse. -/
theorem State.bulbEnd_of_exposing {s : State} {h : Head} {mode : Option TriggerMode}
    (exposing : (s.heads.get h).state = .exposing) :
    (((if mode = some .bulb then s.release h else s).stopBulb h).exposureEnd h) = s.reportingWith h
      (if mode = some .bulb then
        { asserted := false, level := decide ((s.settings.head.get h).polarity = .activeLow), bulb := none, pulse := none }
      else { s.triggers.get h with bulb := none }) := by
  split
  · rw [State.exposureEnd, if_pos (show (((s.release h).stopBulb h).heads.get h).state = .exposing from exposing),
      State.release_eq]
    simp [State.stopBulb, State.modTrigger, State.modHead, State.reportingWith, State.headSettings, HeadSeq.enter, secondsMs]
  · rw [State.exposureEnd, if_pos (show ((s.stopBulb h).heads.get h).state = .exposing from exposing)]
    rfl

theorem exec_bulbTimerExpiry {s : State} {h : Head} (runs : s.runs = true) (bulb : (s.triggers.get h).bulb.isSome = true) :
    exec (.bulbTimerExpiry h) s =
      .next (((if (s.firing h).map (·.2) = some .bulb then s.release h else s).stopBulb h).exposureEnd h) := by
  simp [exec, execBulbTimerExpiry, State.whileRunning_of_runs runs, bulb]

theorem exec_pulseWidthElapsed {s : State} {h : Head} (runs : s.runs = true) (pulse : (s.triggers.get h).pulse.isSome = true) :
    exec (.pulseWidthElapsed h) s = .next (s.release h) := by
  simp [exec, execPulseWidthElapsed, State.whileRunning_of_runs runs, pulse]

theorem State.firing_of_member {s : State} {h : Head} {m : Member} (member : s.member h = some m) :
    ∃ f : Frame, s.frame = some f ∧ s.firing h = some (m.firing h f.sequence) := by
  cases frame : s.frame with
  | none => simp [State.member, frame] at member
  | some f =>
    have inside : f.members.get h = some m := by simpa [State.member, frame] using member
    exact ⟨f, rfl, by simp [State.firing, frame, inside]⟩

/-- The mode that a member's ticket part gives its trigger. -/
theorem State.firingMode_of_ticket {s : State} {h : Head} {m : Member} {k : TicketPart} (member : s.member h = some m)
    (ticket : m.ticket = some k) : (s.firing h).map (·.2) = some k.mode := by
  obtain ⟨f, -, firing⟩ := State.firing_of_member member
  simp [firing, Member.firing, ticket]

end Sys2Proof.Machine

namespace Sys2Proof.Proofs

open Sys2Proof.Machine

/-- Settles O36. -/
theorem headMessagesOutOfPlace : Obligations.HeadMessagesOutOfPlace := by
  intro s h tag flags q level free runs place
  refine ⟨fun stranger => ?_, fun f m o frame member decided => ?_, fun open_ asleep => ?_, fun open_ active => ?_,
    fun open_ early => ?_, fun open_ waking => ?_, fun f m frame member open_ => ⟨fun other state => ?_,
    fun other state => ?_, fun same armed => ?_, fun k y state ticket last sequence => ?_⟩⟩
  · obtain ⟨hello, ready, result⟩ := State.takeMessages_of_stranger (s := s.rxToHunt (headPort h)) (h := h) (n := q.toNat)
      (level := level.toNat) (free := free.toNat) (keepOff := flags.getLsbD 0) stranger
    exact ⟨exec_hello runs place hello rfl, exec_ready runs place ready rfl, exec_result runs place result rfl⟩
  · obtain ⟨hello, ready, result⟩ := State.takeMessages_of_decided (s := s.rxToHunt (headPort h)) (n := q.toNat)
      (level := level.toNat) (free := free.toNat) (keepOff := flags.getLsbD 0) frame member decided
    refine ⟨exec_hello runs place hello rfl, exec_ready runs place ready rfl, fun other => ?_, fun done same => ?_⟩
    · rw [if_neg (by tauto)] at result
      exact exec_result runs place result rfl
    · rw [if_pos ⟨done, same⟩] at result
      exact exec_result runs place result rfl
  · obtain ⟨f, m, frame, member, open_⟩ := State.openPart_of_undecided open_
    refine ⟨exec_hello (u := s) runs place ?_ rfl, exec_ready (u := s) runs place ?_ rfl, exec_result (u := s) runs place ?_ rfl⟩
    · rw [State.takeHello_of_undecided (s := s.rxToHunt _) frame member open_]
      exact State.takeMemberHello_of_asleep asleep
    · refine State.takeReady_of_notExpected (s := s.rxToHunt _) frame member open_ (.inl ?_) ?_ <;>
        rcases asleep with state | state <;> simp [state]
    · refine State.takeResult_of_notExpected (s := s.rxToHunt _) frame member open_ (.inl ?_)
      rcases asleep with state | state <;> simp [state]
  · obtain ⟨f, m, frame, member, open_⟩ := State.openPart_of_undecided open_
    refine ⟨exec_hello (u := s) runs place ?_ rfl, exec_ready (u := s) runs place ?_ rfl⟩
    · rw [State.takeHello_of_undecided (s := s.rxToHunt _) frame member open_]
      exact State.takeMemberHello_of_active active
    · refine State.takeReady_of_notExpected (s := s.rxToHunt _) frame member open_ (.inl ?_) ?_ <;>
        rcases active with state | state <;> simp [state]
  · obtain ⟨f, m, frame, member, open_⟩ := State.openPart_of_undecided open_
    refine exec_result (u := s) runs place (State.takeResult_of_notExpected (s := s.rxToHunt _) frame member open_ (.inl ?_)) rfl
    rcases early with state | state | state <;> simp [state]
  · obtain ⟨f, m, frame, member, open_⟩ := State.openPart_of_undecided open_
    refine exec_ready (u := s) runs place (State.takeReady_of_notExpected (s := s.rxToHunt _) frame member open_ (.inl ?_) ?_) rfl <;>
      simp [waking]
  · refine exec_ready (u := s) runs place
      (State.takeReady_of_notExpected (s := s.rxToHunt _) frame member open_ (.inr other) ?_) rfl
    rcases state with state | state <;> simp [state]
  · exact exec_result (u := s) runs place
      (State.takeResult_of_notExpected (s := s.rxToHunt _) frame member open_ (.inr other)) rfl
  · refine exec_ready (u := s) runs place ?_ rfl
    rw [State.takeReady_of_undecided (s := s.rxToHunt _) frame member open_, State.takeMemberReady,
      show ((s.rxToHunt (headPort h)).heads.get h).state = .armed from armed]
    simp only [same, if_true, State.readyReply, State.rxToHunt_keeps, armed]
    rfl
  · refine exec_hello (u := s) runs place ?_ rfl
    rw [State.takeHello_of_undecided (s := s.rxToHunt _) frame member open_,
      State.takeMemberHello_of_standing (s := s.rxToHunt _) state ?_]
    · rw [State.ticketBytes_of_standing (s := s.rxToHunt _) member ticket last]
      rfl
    · simp [State.ticketStands, last, sequence]

/-- Settles O35. -/
theorem helloIsTicketed : Obligations.HelloIsTicketed := by
  intro s h tag f m x runs place frame member open_ waking fresh figures
  have taken : (s.rxToHunt (headPort h)).takeHello h = ((s.ticketedWith f h x).rxToHunt (headPort h),
      reply .ok ((s.ticketedWith f h x).ticketBytes f h)) := by
    rw [State.takeHello_of_undecided (s := s.rxToHunt _) frame member open_, State.takeMemberHello,
      show ((s.rxToHunt (headPort h)).heads.get h).state = .waking from waking]
    dsimp only
    rw [State.enterTicketed_askTicket (s := s.rxToHunt _) fresh, figures]
    rfl
  refine ⟨_, exec_hello runs place taken rfl, rfl, rfl, rfl, ⟨_, rfl, rfl, ?_, fun none => ?_, ?_⟩, ?_⟩
  · simp [Frame.ticketed, member]
  · exact if_pos (f.noTicketYet_iff.mpr none)
  · rintro ⟨k, n, issued, ticket⟩
    refine if_neg fun none => ?_
    simp [f.noTicketYet_iff.mp none k n issued] at ticket
  · rw [State.ticketBytes_of_ticketed]; rfl

/-- Settles O42. -/
theorem exposureAndPulseEnd : Obligations.ExposureAndPulseEnd := by
  refine ⟨fun s h m k runs member ticket bulb exposing => ?_, fun s h runs pulse => ?_,
    fun s h m runs member ticket bulb exposing => ?_⟩
  · rw [exec_bulbTimerExpiry runs bulb, State.bulbEnd_of_exposing exposing, State.firingMode_of_ticket member ticket]
    simp only [Option.some.injEq]
    rfl
  · rw [exec_pulseWidthElapsed runs pulse, State.release_eq]
  · rw [exec_bulbTimerExpiry runs bulb, State.bulbEnd_of_exposing exposing]
    refine ⟨_, rfl, ?_⟩
    simp only [State.reportingWith, Four.get_set_self, true_and]
    refine ⟨?_, fun g other => ⟨Four.get_set_ne _ _ other, Four.get_set_ne _ _ other⟩⟩
    split <;> rfl

end Sys2Proof.Proofs

/-! ## RESULT delivered; abandonment -/

namespace Sys2Proof.Machine

/-! ### The delivery of a RESULT -/

/-- The trigger of a head after the end of its exposure by a RESULT: released in BULB mode, the bulb timer stopped. -/
def State.endedTrigger (s : State) (f : Frame) (m : Member) (h : Head) : Trigger :=
  if (s.heads.get h).state = .exposing then
    if (m.firing h f.sequence).2 = .bulb then
      { asserted := false, level := decide ((s.settings.head.get h).polarity = .activeLow), bulb := none, pulse := none }
    else { s.triggers.get h with bulb := none }
  else s.triggers.get h

section

variable {s : State} {f : Frame} {m : Member} {h : Head}

theorem State.endedTrigger_bulb (exposing : (s.heads.get h).state = .exposing) : (s.endedTrigger f m h).bulb = none := by
  rw [State.endedTrigger, if_pos exposing]
  split <;> rfl

theorem State.endedTrigger_asserted {k : TicketPart} (exposing : (s.heads.get h).state = .exposing)
    (ticket : m.ticket = some k) (bulb : k.mode = .bulb) : (s.endedTrigger f m h).asserted = false := by
  rw [State.endedTrigger, if_pos exposing, Member.firing_of_ticket ticket, if_pos bulb]

theorem State.endedTrigger_of_timed {k : TicketPart} (exposing : (s.heads.get h).state = .exposing)
    (ticket : m.ticket = some k) (timed : k.mode = .timed) :
    s.endedTrigger f m h = { s.triggers.get h with bulb := none } := by
  rw [State.endedTrigger, if_pos exposing, Member.firing_of_ticket ticket, if_neg (by simp [timed])]

end

theorem State.endExposure_eq (s : State) (f : Frame) (m : Member) (h : Head) :
    s.endExposure f m h = { s with triggers := s.triggers.set h (s.endedTrigger f m h) } := by
  by_cases exposing : (s.heads.get h).state = .exposing
  · cases mode : (m.firing h f.sequence).2 with
    | bulb =>
      simp only [State.endExposure, State.endedTrigger, exposing, mode, if_true, State.release_eq]
      simp [State.stopBulb, State.modTrigger]
    | timed =>
      simp [State.endExposure, State.endedTrigger, exposing, mode, State.stopBulb, State.modTrigger]
  · simp [State.endExposure, State.endedTrigger, exposing]

/-- The part after a delivered RESULT. -/
def State.withResult (s : State) (f : Frame) (m : Member) (h : Head) (level free : Nat) (keepOff : Bool) : State :=
  { s with
    triggers := s.triggers.set h (s.endedTrigger f m h)
    heads := s.heads.set h ((s.heads.get h).takeResult free keepOff)
    ramps := s.ramps.set h ((s.ramps.get h).delivered s.settings.correctionLimit f.phase level)
    frame := some { f with
      members := f.members.set h (some { m with level := some (storedLevel level), outcome := some .done }) } }

theorem State.deliverResult_eq {s : State} {f : Frame} {m : Member} {h : Head} (level free : Nat) (keepOff : Bool)
    (frame : s.frame = some f) (member : f.members.get h = some m) (open_ : m.outcome = none) :
    s.deliverResult f m h level free keepOff = s.withResult f m h level free keepOff := by
  simp [State.deliverResult, State.endExposure_eq, State.modRamp, State.modMember, State.modFrame, State.decideEntry,
    State.modHead, State.withResult, frame, member, open_]

theorem State.takeResult_of_expected {s : State} {f : Frame} {m : Member} {h : Head} {n level free : Nat} {keepOff : Bool}
    (frame : s.frame = some f) (member : f.members.get h = some m) (open_ : m.outcome = none)
    (active : (s.heads.get h).state = .exposing ∨ (s.heads.get h).state = .reporting) (same : n = f.sequence) :
    s.takeResult h n level free keepOff = (s.deliverResult f m h level free keepOff, doneReply) := by
  rcases active with state | state <;> simp [State.takeResult, frame, member, open_, state, same]

end Sys2Proof.Machine

namespace Sys2Proof.Proofs

open Sys2Proof.Machine

/-- Settles O38. -/
theorem resultIsDelivered : Obligations.ResultIsDelivered := by
  rintro s h tag flags q level free f m _ runs place frame member open_ active same rfl
  have taken := State.takeResult_of_expected (s := s.rxToHunt (headPort h)) (level := level.toNat) (free := free.toNat)
    (keepOff := flags.getLsbD 0) frame member open_ active same
  rw [State.deliverResult_eq (s := s.rxToHunt _) _ _ _ frame member open_] at taken
  refine ⟨_, exec_result (u := s.withResult f m h level.toNat free.toNat (flags.getLsbD 0)) runs place taken rfl, rfl, rfl,
    rfl, rfl, rfl, fun g other => Four.get_set_ne _ _ other, fun reporting => ?_, fun exposing => ⟨?_, fun k ticket => ?_⟩⟩
  · have kept : s.endedTrigger f m h = s.triggers.get h := if_neg (by simp [reporting])
    exact (congrArg _ kept).trans (Four.set_get _ _)
  · exact (congrArg Trigger.bulb (Four.get_set_self _ _ _)).trans (State.endedTrigger_bulb exposing)
  · refine ⟨fun bulb => ?_, fun timed => ?_⟩
    · exact (congrArg Trigger.asserted (Four.get_set_self _ _ _)).trans (State.endedTrigger_asserted exposing ticket bulb)
    · have ended := State.endedTrigger_of_timed (f := f) exposing ticket timed
      exact ⟨(congrArg Trigger.asserted (Four.get_set_self _ _ _)).trans (by rw [ended]),
        (congrArg Trigger.pulse (Four.get_set_self _ _ _)).trans (by rw [ended])⟩

end Sys2Proof.Proofs

/-! ## An abandonment, member by member -/

namespace Sys2Proof.Machine

/-! ### One head's part in a change of every head -/

/-- A change of every head, seen from one of them: what holds before its own turn, by the turns of the others, and after it. -/
theorem forHeads_at {f : Head → State → State} (k : Head) {before after : State → Prop} {s : State} (start : before s)
    (early : ∀ (h : Head) (t : State), h ≠ k → before t → before (f h t)) (own : ∀ t : State, before t → after (f k t))
    (late : ∀ (h : Head) (t : State), h ≠ k → after t → after (f h t)) : after (forHeads f s) := by
  cases k with
  | h0 => exact late .h3 _ (by decide) (late .h2 _ (by decide) (late .h1 _ (by decide) (own _ start)))
  | h1 => exact late .h3 _ (by decide) (late .h2 _ (by decide) (own _ (early .h0 _ (by decide) start)))
  | h2 => exact late .h3 _ (by decide) (own _ (early .h1 _ (by decide) (early .h0 _ (by decide) start)))
  | h3 => exact own _ (early .h2 _ (by decide) (early .h1 _ (by decide) (early .h0 _ (by decide) start)))

/-! ### Abandonment, member by member -/

section

variable {s : State} {h : Head}

theorem State.abandonMember_of_decided (decided : s.undecided h = false) : State.abandonMember h s = s := by
  simp [State.abandonMember, decided]

theorem State.abandonMember_of_notReady (open_ : s.undecided h = true)
    (late : (s.heads.get h).state = .waking ∨ (s.heads.get h).state = .ticketed) :
    State.abandonMember h s = ((s.decideEntry h .noReady).countMiss h).modHead h HeadSeq.enterClosing := by
  rcases late with state | state <;> simp [State.abandonMember, open_, state]

theorem State.abandonMember_of_armed (open_ : s.undecided h = true) (armed : (s.heads.get h).state = .armed) :
    State.abandonMember h s = (s.decideEntry h .abandoned).modHead h HeadSeq.enterClosing := by
  simp [State.abandonMember, open_, armed]

theorem State.abandonMember_of_asleep (open_ : s.undecided h = true)
    (asleep : (s.heads.get h).state = .off ∨ (s.heads.get h).state = .standby) :
    State.abandonMember h s = s.decideEntry h .abandoned := by
  rcases asleep with state | state <;> simp [State.abandonMember, open_, state]

/-- A head that is past its arming is left alone. -/
theorem State.abandonMember_of_past
    (past : (s.heads.get h).state = .exposing ∨ (s.heads.get h).state = .reporting ∨ (s.heads.get h).state = .closing) :
    State.abandonMember h s = s := by
  rcases past with state | state | state <;> simp [State.abandonMember, state]

/-- A miss of a head in the frame touches nothing beside the heads, and raises HEAD_EXCLUDED at most. -/
theorem State.countMiss_rest (awake : (s.heads.get h).state ≠ .standby) :
    s.countMiss h = { s with heads := (s.countMiss h).heads, stations := (s.countMiss h).stations } := by
  have energy := State.countMiss_energy awake
  have ports := State.countMiss_ports awake
  have flags := State.countMiss_flags awake
  have triggers := State.countMiss_triggers awake
  have keeps := State.countMiss_keeps s h
  generalize s.countMiss h = t at *
  cases t
  simp_all

/-- The five ways of a member, told apart. -/
theorem State.abandonMember_cases (h : Head) (s : State) :
    State.abandonMember h s = s
      ∨ (((s.heads.get h).state = .waking ∨ (s.heads.get h).state = .ticketed)
          ∧ State.abandonMember h s = ((s.decideEntry h .noReady).countMiss h).modHead h HeadSeq.enterClosing)
      ∨ State.abandonMember h s = (s.decideEntry h .abandoned).modHead h HeadSeq.enterClosing
      ∨ State.abandonMember h s = s.decideEntry h .abandoned := by
  cases open_ : s.undecided h with
  | false => exact .inl (State.abandonMember_of_decided open_)
  | true =>
    cases state : (s.heads.get h).state with
    | waking => exact .inr (.inl ⟨.inl rfl, State.abandonMember_of_notReady open_ (.inl state)⟩)
    | ticketed => exact .inr (.inl ⟨.inr rfl, State.abandonMember_of_notReady open_ (.inr state)⟩)
    | armed => exact .inr (.inr (.inl (State.abandonMember_of_armed open_ state)))
    | off => exact .inr (.inr (.inr (State.abandonMember_of_asleep open_ (.inl state))))
    | standby => exact .inr (.inr (.inr (State.abandonMember_of_asleep open_ (.inr state))))
    | exposing => exact .inl (State.abandonMember_of_past (.inl state))
    | reporting => exact .inl (State.abandonMember_of_past (.inr (.inl state)))
    | closing => exact .inl (State.abandonMember_of_past (.inr (.inr state)))

/-- An abandonment moves heads, member entries and event flags alone. -/
theorem State.abandonMember_rest (h : Head) (s : State) :
    (State.abandonMember h s).triggers = s.triggers ∧ (State.abandonMember h s).energy = s.energy
      ∧ (State.abandonMember h s).ports = s.ports ∧ (State.abandonMember h s).flags = s.flags := by
  rcases State.abandonMember_cases h s with e | ⟨late, e⟩ | e | e
  · rw [e]; exact ⟨rfl, rfl, rfl, rfl⟩
  · rw [e, State.countMiss_rest (by rcases late with state | state <;> simp [state])]; simp
  · rw [e]; simp
  · rw [e]; simp

theorem State.abandonMember_ne (s : State) {h k : Head} (other : h ≠ k) :
    (State.abandonMember h s).member k = s.member k ∧ (State.abandonMember h s).heads.get k = s.heads.get k := by
  rcases State.abandonMember_cases h s with e | ⟨late, e⟩ | e | e
  · rw [e]; exact ⟨rfl, rfl⟩
  · have awake : ((s.decideEntry h .noReady).heads.get h).state ≠ .standby := by
      rcases late with state | state <;> simp [state]
    rw [e]; simp [State.countMiss_heads awake, other.symm]
  · rw [e]; simp [other.symm]
  · rw [e]; simp [other.symm]

/-- One member of an abandonment, from what its own turn makes of it. -/
theorem State.abandonMembers_at {k : Head} {entry : Option Member} {head : HeadSeq} {raised : Prop}
    (own : ∀ t : State, t.member k = s.member k → t.heads.get k = s.heads.get k → t.settings = s.settings →
      (State.abandonMember k t).member k = entry ∧ (State.abandonMember k t).heads.get k = head
        ∧ (raised → ∀ st : Station, hasEvent ((State.abandonMember k t).stations.get st).flags .headExcluded = true)) :
    (forHeads State.abandonMember s).member k = entry ∧ (forHeads State.abandonMember s).heads.get k = head
      ∧ (raised → ∀ st : Station, hasEvent ((forHeads State.abandonMember s).stations.get st).flags .headExcluded = true) := by
  refine forHeads_at k
    (before := fun t => t.member k = s.member k ∧ t.heads.get k = s.heads.get k ∧ t.settings = s.settings)
    (after := fun t => t.member k = entry ∧ t.heads.get k = head
      ∧ (raised → ∀ st : Station, hasEvent (t.stations.get st).flags .headExcluded = true))
    ⟨rfl, rfl, rfl⟩ ?_ (fun t ⟨member, head, settings⟩ => own t member head settings) ?_
  · rintro h t other ⟨member, head, settings⟩
    obtain ⟨member', head'⟩ := t.abandonMember_ne other
    exact ⟨member'.trans member, head'.trans head, by simpa using settings⟩
  · rintro h t other ⟨member, head, events⟩
    obtain ⟨member', head'⟩ := t.abandonMember_ne other
    exact ⟨member'.trans member, head'.trans head, fun r st => State.abandonMember_events h t st _ (events r st)⟩

theorem State.exclude_raised {r : ExclusionReason} (admitted : (s.heads.get h).exclusion = none) (st : Station) :
    hasEvent ((s.exclude h r).stations.get st).flags .headExcluded = true := by
  rw [State.exclude, if_neg (by simp [admitted])]
  exact State.raiseBoth_raised _ _ st

/-- A miss of an ADMITTED head that reaches its limit raises HEAD_EXCLUDED. -/
theorem State.countMiss_raised (admitted : (s.heads.get h).exclusion = none)
    (limit : (s.settings.head.get h).missLimit ≤ min ((s.heads.get h).miss + 1) 15) (st : Station) :
    hasEvent ((s.countMiss h).stations.get st).flags .headExcluded = true := by
  rw [State.countMiss, State.judgeMisses, if_pos (by simpa [admitted, State.headSettings, saturate, Config.maxMisses] using limit)]
  dsimp only
  split
  · exact State.railOff_events _ _ st _ (State.exclude_raised (by simp [admitted]) st)
  · exact State.exclude_raised (by simp [admitted]) st

/-- The entry and the head of a member that is not ready at an abandonment. -/
theorem State.abandonMembers_notReady (open_ : s.undecided h = true)
    (late : (s.heads.get h).state = .waking ∨ (s.heads.get h).state = .ticketed) :
    (forHeads State.abandonMember s).member h = (s.member h).map (Member.decided .noReady)
      ∧ (forHeads State.abandonMember s).heads.get h = HeadSeq.enterClosing { s.heads.get h with
          miss := min ((s.heads.get h).miss + 1) 15
          exclusion := if (s.settings.head.get h).missLimit ≤ min ((s.heads.get h).miss + 1) 15 then
            (s.heads.get h).exclusion.or (some .misses) else (s.heads.get h).exclusion }
      ∧ ((s.heads.get h).exclusion = none ∧ (s.settings.head.get h).missLimit ≤ min ((s.heads.get h).miss + 1) 15 →
          ∀ st : Station, hasEvent ((forHeads State.abandonMember s).stations.get st).flags .headExcluded = true) := by
  refine State.abandonMembers_at fun t member head settings => ?_
  have awake : ((t.decideEntry h .noReady).heads.get h).state ≠ .standby := by
    rcases late with state | state <;> simp [head, state]
  rw [State.abandonMember_of_notReady ((State.undecided_congr h member).trans open_) (by rwa [head])]
  refine ⟨by simp [member], ?_, fun ⟨admitted, limit⟩ st => ?_⟩
  · simp [State.countMiss_heads awake, head, settings, State.headSettings]
  · simp only [State.modHead_stations]
    exact State.countMiss_raised (by simpa [head] using admitted) (by simpa [head, settings] using limit) st

theorem State.abandonMembers_armed (open_ : s.undecided h = true) (armed : (s.heads.get h).state = .armed) :
    (forHeads State.abandonMember s).member h = (s.member h).map (Member.decided .abandoned)
      ∧ (forHeads State.abandonMember s).heads.get h = (s.heads.get h).enterClosing := by
  obtain ⟨member, head, -⟩ := State.abandonMembers_at (raised := False) (k := h) (s := s)
      (entry := (s.member h).map (Member.decided .abandoned)) (head := (s.heads.get h).enterClosing)
      fun t member head settings => by
    rw [State.abandonMember_of_armed ((State.undecided_congr h member).trans open_) (by rwa [head])]
    exact ⟨by simp [member], by simp [head], False.elim⟩
  exact ⟨member, head⟩

theorem State.abandonMembers_asleep (open_ : s.undecided h = true)
    (asleep : (s.heads.get h).state = .off ∨ (s.heads.get h).state = .standby) :
    (forHeads State.abandonMember s).member h = (s.member h).map (Member.decided .abandoned)
      ∧ (forHeads State.abandonMember s).heads.get h = s.heads.get h := by
  obtain ⟨member, head, -⟩ := State.abandonMembers_at (raised := False) (k := h) (s := s)
      (entry := (s.member h).map (Member.decided .abandoned)) (head := s.heads.get h) fun t member head settings => by
    rw [State.abandonMember_of_asleep ((State.undecided_congr h member).trans open_) (by rwa [head])]
    exact ⟨by simp [member], by simp [head], False.elim⟩
  exact ⟨member, head⟩

theorem State.abandonMembers_decided (decided : s.undecided h = false) :
    (forHeads State.abandonMember s).member h = s.member h
      ∧ (forHeads State.abandonMember s).heads.get h = s.heads.get h := by
  obtain ⟨member, head, -⟩ := State.abandonMembers_at (raised := False) (k := h) (s := s) fun t member head settings => by
    rw [State.abandonMember_of_decided ((State.undecided_congr h member).trans decided)]
    exact ⟨member, head, False.elim⟩
  exact ⟨member, head⟩

/-- What the four turns of an abandonment leave alone. -/
theorem State.abandonMembers_rest (s : State) :
    (forHeads State.abandonMember s).triggers = s.triggers ∧ (forHeads State.abandonMember s).energy = s.energy
      ∧ (forHeads State.abandonMember s).ports = s.ports := by
  simp only [forHeads, State.abandonMember_rest, and_self]

end

/-! ### The abandonment as a whole -/

theorem State.abandon_member (s : State) (h : Head) : s.abandon.member h = (forHeads State.abandonMember s).member h := by
  simp only [State.member_eq, State.abandon, State.setSync, State.modFrame_frame]
  cases (forHeads State.abandonMember s).frame <;> rfl

theorem State.abandon_heads (s : State) : s.abandon.heads = (forHeads State.abandonMember s).heads := by
  simp [State.abandon]

theorem State.abandon_stations (s : State) : s.abandon.stations = (forHeads State.abandonMember s).stations := by
  simp [State.abandon]

theorem State.abandon_rest (s : State) : s.abandon.triggers = s.triggers ∧ s.abandon.energy = s.energy
    ∧ s.abandon.ports = s.ports ∧ s.abandon.armTimer = none := by
  obtain ⟨triggers, energy, ports⟩ := s.abandonMembers_rest
  simp [State.abandon, triggers, energy, ports]

/-- The frame in flight is ABANDONED. -/
theorem State.abandon_frame {s : State} {f : Frame} (frame : s.frame = some f) :
    ∃ g : Frame, s.abandon.frame = some g ∧ g.sync = .abandoned := by
  obtain ⟨g, later, -⟩ := s.abandon_later f frame
  have synced : s.abandon.frame = (forHeads State.abandonMember s).frame.map (fun f => { f with sync := .abandoned }) := by
    simp [State.abandon, State.setSync]
  obtain ⟨f', -, rfl⟩ := Option.map_eq_some_iff.mp (synced.symm.trans later)
  exact ⟨_, later, rfl⟩

theorem State.outcomeOf_decided {s t : State} {h : Head} {o : EntryOutcome} (open_ : s.undecided h = true)
    (member : t.member h = (s.member h).map (Member.decided o)) : t.outcomeOf h = some o := by
  obtain ⟨m, there, free⟩ := (s.undecided_iff h).mp open_
  simp [State.outcomeOf, member, there, Member.decided, free]

/-- An abandonment that finds a member woken and not yet exposing leaves the frame open. -/
theorem State.abandon_unfinished {s : State} {w : Head} (open_ : s.undecided w = true)
    (awake : (s.heads.get w).state = .waking ∨ (s.heads.get w).state = .ticketed ∨ (s.heads.get w).state = .armed) :
    s.abandon.frameFinished = false := by
  obtain ⟨m, there, -⟩ := (s.undecided_iff w).mp open_
  have closing : (s.abandon.heads.get w).state = .closing ∧ (s.abandon.member w).isSome = true := by
    rw [State.abandon_heads, State.abandon_member]
    rcases awake with state | state | state
    · obtain ⟨member, head, -⟩ := State.abandonMembers_notReady open_ (.inl state)
      rw [member, head, there]; exact ⟨rfl, rfl⟩
    · obtain ⟨member, head, -⟩ := State.abandonMembers_notReady open_ (.inr state)
      rw [member, head, there]; exact ⟨rfl, rfl⟩
    · obtain ⟨member, head⟩ := State.abandonMembers_armed open_ state
      rw [member, head, there]; exact ⟨rfl, rfl⟩
  obtain ⟨state, member⟩ := closing
  obtain ⟨n, member⟩ := Option.isSome_iff_exists.mp member
  exact State.frameFinished_false (g := w) (by simp [State.memberFinished, member, state])

end Sys2Proof.Machine

namespace Sys2Proof.Proofs

open Sys2Proof.Machine

/-- Settles O41. -/
theorem armWindowExpiryAbandons : Obligations.ArmWindowExpiryAbandons := by
  intro s f w runs frame set open_ awake
  obtain ⟨triggers, energy, ports, timer⟩ := s.abandon_rest
  have expires : exec .armTimerExpiry s = .next s.abandon := by
    have ends : s.abandon.finish s.energy.effective = s.abandon :=
      State.finish_same (by rw [energy]) (.inr (State.abandon_unfinished open_ awake))
    simp [exec, execArmTimerExpiry, State.whileRunning_of_runs runs, set, ends]
  obtain ⟨g, inFlight, sync⟩ := State.abandon_frame frame
  refine ⟨_, g, expires, inFlight, sync, timer, triggers, energy, ports, by simp, by simp, by simp, by simp, fun h =>
    ⟨fun open_ late => ?_, fun open_ armed => ?_, fun open_ asleep => ?_, fun decided => ?_⟩⟩
  · obtain ⟨member, head, raised⟩ := State.abandonMembers_notReady open_ late
    rw [← State.abandon_member] at member
    rw [State.abandon_heads, State.abandon_stations, head]
    refine ⟨State.outcomeOf_decided open_ member, rfl, rfl, rfl, fun admitted limit => ⟨?_, raised ⟨admitted, limit⟩⟩,
      fun kept => ?_⟩
    · simp [HeadSeq.enterClosing, HeadSeq.enter, admitted, limit]
    · rcases kept with excluded | below
      · obtain ⟨r, excluded⟩ := Option.isSome_iff_exists.mp excluded
        simp [HeadSeq.enterClosing, HeadSeq.enter, excluded]
      · simp [HeadSeq.enterClosing, HeadSeq.enter, Nat.not_le.mpr below]
  · obtain ⟨member, head⟩ := State.abandonMembers_armed open_ armed
    rw [← State.abandon_member] at member
    rw [State.abandon_heads, head]
    exact ⟨State.outcomeOf_decided open_ member, rfl, rfl, rfl, rfl⟩
  · obtain ⟨member, head⟩ := State.abandonMembers_asleep open_ asleep
    rw [← State.abandon_member] at member
    rw [State.abandon_heads, head]
    exact ⟨State.outcomeOf_decided open_ member, rfl⟩
  · obtain ⟨member, head⟩ := State.abandonMembers_decided decided
    rw [← State.abandon_member] at member
    rw [State.abandon_heads, head]
    exact ⟨State.outcomeOf_congr h member, rfl⟩

end Sys2Proof.Proofs

/-! ## Firing; the advance of the seconds count up to D -/

namespace Sys2Proof.Machine

/-! ### The fire of every armed member -/

/-- The trigger of a member that fires. -/
def State.firedTrigger (s : State) (f : Frame) (m : Member) (h : Head) : Trigger :=
  { asserted := true, level := decide ((s.settings.head.get h).polarity = .activeHigh)
    bulb := some (m.firing h f.sequence).1
    pulse := if (m.firing h f.sequence).2 = .timed then some (s.settings.head.get h).pulseWidth else none }

/-- The part with one head fired. -/
def State.fired (s : State) (f : Frame) (m : Member) (h : Head) : State :=
  { s with
    heads := s.heads.set h ((s.heads.get h).enter .exposing)
    triggers := s.triggers.set h (s.firedTrigger f m h) }

section

variable {s : State} {f : Frame} {m : Member} {h : Head}

theorem State.fire_eq (frame : s.frame = some f) (member : f.members.get h = some m) : State.fire h s = s.fired f m h := by
  have level (pol : Polarity) : pol.activeLevel = decide (pol = .activeHigh) := by cases pol <;> rfl
  rw [State.fire_member frame member, level]
  rfl

theorem State.armedMember_iff (frame : s.frame = some f) :
    s.armedMember h = true ↔ (f.members.get h).isSome = true ∧ (s.heads.get h).state = .armed := by
  simp [State.armedMember, State.member_some h frame]

/-- A fire of one head leaves the frame, the settings and every other head and trigger. -/
theorem State.fireIfArmed_ne (s : State) {h k : Head} (other : h ≠ k) :
    (State.fireIfArmed h s).heads.get k = s.heads.get k ∧ (State.fireIfArmed h s).triggers.get k = s.triggers.get k := by
  by_cases armed : s.armedMember h = true
  · cases frame : s.frame with
    | none => simp [State.armedMember, State.member_eq, frame] at armed
    | some f =>
      obtain ⟨there, -⟩ := (State.armedMember_iff frame).mp armed
      obtain ⟨m, member⟩ := Option.isSome_iff_exists.mp there
      rw [State.fireIfArmed, if_pos armed, State.fire_eq frame member]
      exact ⟨Four.get_set_ne _ _ other.symm, Four.get_set_ne _ _ other.symm⟩
  · rw [State.fireIfArmed, if_neg armed]; exact ⟨rfl, rfl⟩

/-- One head in the fire of every armed member, from what its own turn makes of it. -/
theorem State.fireArmed_at {k : Head} {head : HeadSeq} {trigger : Trigger}
    (own : ∀ t : State, t.frame = s.frame → t.settings = s.settings → t.heads.get k = s.heads.get k →
      t.triggers.get k = s.triggers.get k →
      (State.fireIfArmed k t).heads.get k = head ∧ (State.fireIfArmed k t).triggers.get k = trigger) :
    s.fireArmed.heads.get k = head ∧ s.fireArmed.triggers.get k = trigger := by
  refine forHeads_at k
    (before := fun t => t.frame = s.frame ∧ t.settings = s.settings ∧ t.heads.get k = s.heads.get k
      ∧ t.triggers.get k = s.triggers.get k)
    (after := fun t => t.heads.get k = head ∧ t.triggers.get k = trigger)
    ⟨rfl, rfl, rfl, rfl⟩ ?_ (fun t ⟨frame, settings, head, trigger⟩ => own t frame settings head trigger) ?_
  · rintro h t other ⟨frame, settings, head, trigger⟩
    obtain ⟨head', trigger'⟩ := t.fireIfArmed_ne other
    exact ⟨by simpa using frame, by simpa using settings, head'.trans head, trigger'.trans trigger⟩
  · rintro h t other ⟨head, trigger⟩
    obtain ⟨head', trigger'⟩ := t.fireIfArmed_ne other
    exact ⟨head'.trans head, trigger'.trans trigger⟩

/-- An armed member fires. -/
theorem State.fireArmed_of_armed (frame : s.frame = some f) (member : f.members.get h = some m)
    (armed : (s.heads.get h).state = .armed) :
    s.fireArmed.heads.get h = (s.heads.get h).enter .exposing ∧ s.fireArmed.triggers.get h = s.firedTrigger f m h := by
  refine State.fireArmed_at fun t frame' settings head trigger => ?_
  have turn : t.armedMember h = true :=
    (State.armedMember_iff (frame'.trans frame)).mpr ⟨by simp [member], by rwa [head]⟩
  rw [State.fireIfArmed, if_pos turn, State.fire_eq (frame'.trans frame) member]
  refine ⟨(Four.get_set_self _ _ _).trans (by rw [head]), (Four.get_set_self _ _ _).trans ?_⟩
  rw [State.firedTrigger, settings]; rfl

/-- Any other head stays as it is. -/
theorem State.fireArmed_of_not (frame : s.frame = some f)
    (not : f.members.get h = none ∨ (s.heads.get h).state ≠ .armed) :
    s.fireArmed.heads.get h = s.heads.get h ∧ s.fireArmed.triggers.get h = s.triggers.get h := by
  refine State.fireArmed_at fun t frame' settings head trigger => ?_
  have idle : ¬t.armedMember h = true := fun turn => by
    obtain ⟨there, armed⟩ := (State.armedMember_iff (frame'.trans frame)).mp turn
    rcases not with none | state
    · simp [none] at there
    · exact state (by rwa [head] at armed)
  rw [State.fireIfArmed, if_neg idle]
  exact ⟨head, trigger⟩

/-- Firing moves heads and triggers alone. -/
theorem State.fireArmed_rest (s : State) :
    s.fireArmed = { s with heads := s.fireArmed.heads, triggers := s.fireArmed.triggers } := by
  have keeps := s.fireArmed_keeps
  generalize s.fireArmed = t at *
  cases t
  simp_all

theorem State.armComplete_iff (frame : s.frame = some f) : s.armComplete = true ↔
    ∀ g : Head, (f.members.get g).isSome = true → (s.heads.get g).state = .armed := by
  rw [State.armComplete, allHeads_iff]
  refine forall_congr' fun g => ?_
  simp only [State.armedMember, State.member_some g frame]
  cases f.members.get g <;> simp

theorem State.firedTrigger_bulb {k : TicketPart} (ticket : m.ticket = some k) :
    (s.firedTrigger f m h).bulb = some k.exposure := by
  simp [State.firedTrigger, Member.firing, ticket]

end

end Sys2Proof.Machine

/-! ## The advance of the seconds count -/

namespace Sys2Proof.Machine

/-! ### The second that ends -/

/-- The part right after its count has advanced, before a day rollover. -/
def State.secondEnded (s : State) : State := (s.elapse (1000 - s.time.subSecond)).advanceCount

theorem State.shiftTimes_wrap (s : State) : s.shiftTimes (-(countModulus : Int)) = s.wrapped := rfl

theorem State.nextCount_eq (s : State) : nextCount s.time.count = s.nextSecond := rfl

theorem State.advanced_eq (s : State) : s.advanced = if s.midnight then s.secondEnded.rolledOver else s.secondEnded := by
  simp only [State.advanced, State.secondEnded, State.advanceCount, State.shiftTimes_wrap]
  have count : (s.elapse (1000 - s.time.subSecond)).time.count = s.time.count := rfl
  rw [count, State.nextCount_eq]
  by_cases wraps : s.time.count + 1 = countModulus
  · rw [if_pos wraps]; rfl
  · rw [if_neg wraps]

theorem State.advanceCount_time (s : State) :
    s.advanceCount.time = { s.time with count := s.nextSecond, subSecond := 0 } := by
  simp only [State.advanceCount, State.nextCount_eq]
  split <;> simp

theorem State.secondEnded_time (s : State) : s.secondEnded.time =
    { s.time with count := s.nextSecond, subSecond := 0, sinceSet := s.time.sinceSet + (1000 - s.time.subSecond) } := by
  rw [State.secondEnded, State.advanceCount_time]; rfl

theorem State.secondEnded_rolloverDue (s : State) : s.secondEnded.rolloverDue = s.midnight := by
  rw [State.rolloverDue, State.timeOfDay, State.secondEnded_time]; rfl

/-- What the advance of the count leaves, beside the scheduled times and the frame in flight. -/
theorem State.advanceCount_keeps (s : State) :
    s.advanceCount.supply = s.supply ∧ s.advanceCount.bsense = s.bsense ∧ s.advanceCount.plan = s.plan
      ∧ s.advanceCount.meter = s.meter ∧ s.advanceCount.ramps = s.ramps ∧ s.advanceCount.armTimer = s.armTimer
      ∧ s.advanceCount.triggers = s.triggers ∧ s.advanceCount.heads = s.heads ∧ s.advanceCount.energy = s.energy
      ∧ s.advanceCount.journal = s.journal ∧ s.advanceCount.ports = s.ports ∧ s.advanceCount.stations = s.stations
      ∧ s.advanceCount.windows = s.windows ∧ s.advanceCount.flags = s.flags ∧ s.advanceCount.settings = s.settings
      ∧ s.advanceCount.pending = s.pending ∧ s.advanceCount.sched.run = s.sched.run := by
  simp only [State.advanceCount]
  split
  · simp; rfl
  · simp

/-! ### The day rollover -/

theorem floorOf_zero (allowance : Nat) : floorOf allowance 0 = .none := by
  rw [floorOf, if_neg (by omega)]

theorem State.rollover_eq (s : State) : s.rollover = { s with
    energy := { s.energy with spend := 0 }
    heads := ⟨s.heads.h0.admitted, s.heads.h1.admitted, s.heads.h2.admitted, s.heads.h3.admitted⟩ } := rfl

theorem State.judgeRollover_eq (s : State) : s.rollover.judgeFloor.judgeTier = s.rolledOver := by
  have mask : Event.tierChanged.mask = 16#10 := by decide
  rw [State.rollover_eq]
  simp only [State.judgeFloor, floorOf_zero, State.judgeTier, BudgetFloor.tier, worse_normal, State.rolledOver]
  split
  · next same => rw [same]
  · simp only [State.raiseBoth, State.raiseAt, State.modStation, Two.set, Two.get, mask]

theorem State.runningRollover_eq (s : State) : s.runningRollover = s.rolledOver.followTier s.energy.effective := by
  rw [State.runningRollover, State.judgeRollover_eq]

/-! ### What the advance leaves -/

theorem State.elapse_keeps (s : State) (n : Nat) :
    (s.elapse n).supply = s.supply ∧ (s.elapse n).sched = s.sched ∧ (s.elapse n).plan = s.plan
      ∧ (s.elapse n).ramps = s.ramps ∧ (s.elapse n).frame = s.frame ∧ (s.elapse n).journal = s.journal
      ∧ (s.elapse n).stations = s.stations ∧ (s.elapse n).settings = s.settings
      ∧ (s.elapse n).energy.effective = s.energy.effective ∧ (s.elapse n).energy.voltageTier = s.energy.voltageTier
      ∧ (s.elapse n).energy.floor = s.energy.floor := ⟨rfl, rfl, rfl, rfl, rfl, rfl, rfl, rfl, rfl, rfl, rfl⟩

theorem State.secondEnded_keeps (s : State) :
    s.secondEnded.plan = s.plan ∧ s.secondEnded.ramps = s.ramps ∧ s.secondEnded.journal = s.journal
      ∧ s.secondEnded.stations = s.stations ∧ s.secondEnded.settings = s.settings
      ∧ s.secondEnded.sched.run = s.sched.run ∧ s.secondEnded.energy.effective = s.energy.effective
      ∧ s.secondEnded.energy.voltageTier = s.energy.voltageTier ∧ s.secondEnded.energy.floor = s.energy.floor := by
  simp only [State.secondEnded, State.advanceCount_keeps, State.elapse_keeps, and_self]

theorem State.secondEnded_frame_isSome (s : State) : s.secondEnded.frame.isSome = s.frame.isSome := by
  simp only [State.secondEnded, State.advanceCount]
  split
  · simp [State.shiftTimes, State.elapse_keeps]
  · simp [State.elapse_keeps]

theorem State.secondEnded_absent {s : State} (due : s.sched.due = none) (opens : s.sched.openTime = none) :
    s.secondEnded.sched.due = none ∧ s.secondEnded.sched.openTime = none := by
  simp only [State.secondEnded, State.advanceCount]
  split
  · simp [State.shiftTimes, Scheduler.shift, State.elapse_keeps, due, opens]
  · simp [State.elapse_keeps, due, opens]

theorem State.advanced_keeps (s : State) :
    s.advanced.plan = s.plan ∧ s.advanced.ramps = s.ramps ∧ s.advanced.journal = s.journal
      ∧ s.advanced.settings = s.settings ∧ s.advanced.sched.run = s.sched.run
      ∧ s.advanced.time = s.secondEnded.time ∧ s.advanced.frame = s.secondEnded.frame
      ∧ s.advanced.sched = s.secondEnded.sched := by
  rw [State.advanced_eq]
  split
  · simp only [State.rolledOver, State.secondEnded_keeps, and_self]
  · simp only [State.secondEnded_keeps, and_self]

theorem Scheduler.noDue_of_absent {c : Scheduler} (due : c.due = none) (opens : c.openTime = none) : c.noDue = c := by
  cases c; simp_all [Scheduler.noDue]

/-! ### The blocks act on it -/

/-- A rollover that AdvanceRests lets pass follows no tier. -/
theorem State.runningRollover_of_rests {s : State} (rests : s.AdvanceRests) (midnight : s.midnight = true) :
    s.secondEnded.runningRollover = s.secondEnded.rolledOver := by
  obtain ⟨-, rests⟩ := rests
  have voltage : s.secondEnded.rolledOver.energy.effective = s.energy.voltageTier := by
    simp only [State.rolledOver, State.secondEnded_keeps]
  rw [State.runningRollover_eq, State.followTier, voltage]
  simp only [State.secondEnded_keeps]
  rcases rests midnight with same | ⟨powered, still⟩
  · rw [if_pos same]
  · rw [if_neg powered, ite_eq_left_iff]
    intro
    cases flight : s.frame.isSome with
    | true =>
      refine State.reschedule_of_frame ?_
      rw [← flight, ← s.secondEnded_frame_isSome]; rfl
    | false =>
      obtain ⟨held, due, opens⟩ := still.resolve_left (by simp [flight])
      obtain ⟨due, opens⟩ := State.secondEnded_absent due opens
      rw [State.reschedule_of_held]
      · rw [show s.secondEnded.rolledOver.sched = s.secondEnded.sched from rfl, Scheduler.noDue_of_absent due opens]
        rfl
      · have idle : s.secondEnded.frame.isSome = false := by rw [s.secondEnded_frame_isSome, flight]
        exact Option.not_isSome_iff_eq_none.mp
          (Bool.eq_false_iff.mp (show s.secondEnded.rolledOver.frame.isSome = false from idle))
      · simp only [State.rolledOver, State.secondEnded_keeps, held]

/-- What the blocks make of an advance that leaves the tier to itself. -/
theorem exec_advance {s : State} (rests : s.AdvanceRests) : exec .secondsCountAdvance s =
    .next s.advanced.judgeAtTime.tryOpen.reachD.wakeReached.closeIfFinished := by
  refine congrArg Host.Outcome.next ?_
  obtain ⟨runs, -⟩ := id rests
  rw [if_pos runs, State.advanceRunning, ← State.secondEnded, State.actOnAdvance, State.secondEnded_rolloverDue,
    State.advanced_eq]
  split
  · next midnight => rw [State.runningRollover_of_rests rests midnight]
  · rfl

theorem State.judgeAtTime_of_noEntry {s : State} (rest : s.NoEntryAhead) : s.advanced.judgeAtTime = s.advanced := by
  have unmet : s.advanced.atTimeMet = false := by
    have day : s.advanced.timeOfDay = s.nextSecond % 86400 := by
      simp only [State.timeOfDay, State.advanced_keeps, State.secondEnded_time]
    simp only [State.atTimeMet, State.advanced_keeps, State.secondEnded_keeps, State.secondEnded_time, day]
    rcases rest with held | invalid | other
    · simp [held]
    · simp [invalid]
    · have other' : startTime? s.plan.successor.start ≠ some (s.nextSecond % 86400) := fun e => by
        cases start : s.plan.successor.start <;> simp_all [startTime?]
      simp [other']
  rw [State.judgeAtTime, unmet]
  rfl

/-! ### Blocks with nothing to do -/

section

variable {s : State} {f : Frame}

theorem State.tryOpen_of_frame (frame : s.frame = some f) : s.tryOpen = s := by
  simp [State.tryOpen, frame]

theorem State.reachD_of_quiet (frame : s.frame = some f)
    (quiet : s.now < f.due ∨ (f.sync ≠ .beforeD ∧ f.sync ≠ .waiting)) : s.reachD = s := by
  unfold State.reachD
  rw [frame]
  dsimp only
  split
  · next reached =>
    obtain ⟨before, waiting⟩ := quiet.resolve_left (by omega)
    cases sync : f.sync <;> simp_all
  · rfl

/-- A wake time that is ahead, or was reached before, wakes nobody. -/
def Member.Rests (m : Member) (now : Int) : Prop := m.reached = true ∨ now < m.wakeTime

theorem State.wakeIfReached_of_rests {h : Head}
    (rests : ∀ (f : Frame) (m : Member), s.frame = some f → f.members.get h = some m → m.Rests s.now) :
    State.wakeIfReached h s = s := by
  unfold State.wakeIfReached
  cases frame : s.frame with
  | none => rfl
  | some f =>
    dsimp only
    cases member : f.members.get h with
    | none => rfl
    | some m =>
      refine if_neg fun ⟨fresh, reached⟩ => ?_
      rcases rests f m frame member with before | ahead
      · simp [before] at fresh
      · omega

theorem State.wakeReached_of_rests
    (rests : ∀ (h : Head) (f : Frame) (m : Member), s.frame = some f → f.members.get h = some m → m.Rests s.now) :
    s.wakeReached = s := by
  simp only [State.wakeReached, forHeads, State.wakeIfReached_of_rests (rests _)]

theorem State.closeIfFinished_of_open (open_ : s.frameFinished = false) : s.closeIfFinished = s := by
  unfold State.closeIfFinished
  rw [open_]
  cases s.frame <;> rfl

theorem State.frameFinished_iff : s.frameFinished = true ↔ ∀ h : Head, s.memberFinished h = true := by
  rw [State.frameFinished, allHeads_iff]

/-- A frame stays open while its members keep their entries and no awake head goes to sleep. -/
theorem State.frameFinished_kept {t : State} (open_ : s.frameFinished = false) (members : ∀ k : Head, t.member k = s.member k)
    (heads : ∀ k : Head, (t.heads.get k).state = (s.heads.get k).state ∨ (t.heads.get k).state = .exposing) :
    t.frameFinished = false := by
  rw [Bool.eq_false_iff] at open_ ⊢
  refine fun finished => open_ (State.frameFinished_iff.mpr fun k => ?_)
  have own := State.frameFinished_iff.mp finished k
  rw [State.memberFinished, members k] at own
  rw [State.memberFinished]
  cases member : s.member k with
  | none => rfl
  | some m =>
    rcases heads k with same | exposing
    · simpa [member, same] using own
    · simp [member, exposing] at own

end

end Sys2Proof.Machine

/-! ## READY and D -/

namespace Sys2Proof.Machine

/-! ### READY of a ticketed member -/

/-- The part with one head armed. -/
def State.armedAt (s : State) (h : Head) : State := { s with heads := s.heads.set h ((s.heads.get h).enter .armed) }

section

variable {s : State} {f : Frame} {m : Member} {h : Head} {n : Nat}

theorem State.takeReady_of_ticketed (frame : s.frame = some f) (member : f.members.get h = some m)
    (open_ : m.outcome = none) (ticketed : (s.heads.get h).state = .ticketed) (same : n = f.sequence) :
    s.takeReady h n = (s.arm f h, (s.arm f h).readyReply h) := by
  rw [State.takeReady_of_undecided frame member open_]
  simp [State.takeMemberReady, ticketed, same]

theorem State.armedAt_head (s : State) (h : Head) : (s.armedAt h).heads.get h = (s.heads.get h).enter .armed :=
  Four.get_set_self _ _ _

theorem State.armedAt_head_ne (s : State) {g h : Head} (other : g ≠ h) : (s.armedAt h).heads.get g = s.heads.get g :=
  Four.get_set_ne _ _ other

/-- Before D, and in WINDOW while a member is not yet ARMED, the head only waits. -/
theorem State.arm_of_waiting (frame : s.frame = some f)
    (waits : f.sync = .beforeD ∨ f.sync = .waiting
      ∨ (f.sync = .window ∧ ∃ g : Head, g ≠ h ∧ (f.members.get g).isSome = true ∧ (s.heads.get g).state ≠ .armed)) :
    s.arm f h = s.armedAt h := by
  rcases waits with sync | sync | ⟨sync, g, other, there, state⟩
  · simp only [State.arm, sync]; rfl
  · simp only [State.arm, sync]; rfl
  · have short : (s.armedAt h).armComplete ≠ true := fun full =>
      state ((State.armedAt_head_ne s other) ▸ (State.armComplete_iff (s := s.armedAt h) frame).mp full g there)
    simp only [State.arm, sync]
    exact if_neg short

/-- After D the head fires at once. -/
theorem State.arm_of_afterD (frame : s.frame = some f) (member : f.members.get h = some m) (sync : f.sync = .afterD) :
    s.arm f h = (s.armedAt h).fired f m h := by
  simp only [State.arm, sync]
  exact State.fire_eq (s := s.armedAt h) frame member

theorem State.fired_armedAt (s : State) (f : Frame) (m : Member) (h : Head) : (s.armedAt h).fired f m h = s.fired f m h := by
  simp [State.fired, State.armedAt, HeadSeq.enter, State.firedTrigger]
  rfl

/-- The reply to the READY of a head that fires. -/
theorem State.readyReply_of_exposing (exposing : (s.heads.get h).state = .exposing) :
    s.readyReply h = reply .ok [4#8, 1#8] := by
  rw [State.readyReply, exposing]; rfl

/-- In WINDOW the READY that completes the arm set fires every member. -/
theorem State.arm_of_complete (frame : s.frame = some f) (sync : f.sync = .window)
    (others : ∀ g : Head, g ≠ h → (f.members.get g).isSome = true → (s.heads.get g).state = .armed) :
    s.arm f h = (s.armedAt h).fireLocked := by
  have full : (s.armedAt h).armComplete = true := (State.armComplete_iff (s := s.armedAt h) frame).mpr fun g there => by
    by_cases own : g = h
    · subst own; rw [State.armedAt_head]; rfl
    · rw [State.armedAt_head_ne s own]; exact others g own there
  simp only [State.arm, sync]
  exact if_pos full

/-- Every member of the frame, fired together. -/
theorem State.fireLocked_member (frame : s.frame = some f) (member : f.members.get h = some m)
    (armed : (s.heads.get h).state = .armed) :
    (s.fireLocked.heads.get h).state = .exposing ∧ s.fireLocked.triggers.get h = s.firedTrigger f m h := by
  obtain ⟨head, trigger⟩ := State.fireArmed_of_armed frame member armed
  simp only [State.fireLocked, State.setSync_keeps]
  exact ⟨by rw [head]; rfl, trigger⟩

theorem State.fireLocked_stranger (frame : s.frame = some f) (stranger : f.members.get h = none) :
    s.fireLocked.heads.get h = s.heads.get h ∧ s.fireLocked.triggers.get h = s.triggers.get h := by
  simp only [State.fireLocked, State.setSync_keeps]
  exact State.fireArmed_of_not frame (.inl stranger)

theorem State.fireLocked_frame (frame : s.frame = some f) : s.fireLocked.frame = some { f with sync := .fired } := by
  simp [State.fireLocked, State.setSync, frame]

end

/-! ### D reached at an advance -/

section

variable {s : State} {f : Frame}

/-- The fire of a FREE frame at D. -/
theorem State.reachD_of_free (frame : s.frame = some f) (reached : f.due ≤ s.now) (sync : f.sync = .beforeD) :
    s.reachD = (s.setSync .afterD).fireArmed := by
  simp [State.reachD, frame, reached, sync]

theorem State.reachD_of_locked (frame : s.frame = some f) (reached : f.due ≤ s.now) (sync : f.sync = .waiting) :
    s.reachD = s.reachLocked f := by
  simp [State.reachD, frame, reached, sync]

theorem State.reachLocked_of_complete (frame : s.frame = some f)
    (all : ∀ g : Head, (f.members.get g).isSome = true → (s.heads.get g).state = .armed) : s.reachLocked f = s.fireLocked :=
  if_pos ((State.armComplete_iff frame).mpr all)

theorem State.reachLocked_of_short (frame : s.frame = some f)
    (short : ∃ g : Head, (f.members.get g).isSome = true ∧ (s.heads.get g).state ≠ .armed) :
    s.reachLocked f = if 0 < f.phase.armWindow then
      { s.setSync .window with armTimer := some (f.phase.armWindow * 1000) } else s.abandon := by
  obtain ⟨g, there, state⟩ := short
  exact if_neg fun full => state ((State.armComplete_iff frame).mp full g there)

theorem State.setSync_eq (frame : s.frame = some f) (y : Sync) : s.setSync y = { s with frame := some { f with sync := y } } := by
  simp [State.setSync, State.modFrame, frame]

theorem State.fireLocked_rest (frame : s.frame = some f) : s.fireLocked =
    { s with heads := s.fireLocked.heads, triggers := s.fireLocked.triggers, frame := some { f with sync := .fired }
             armTimer := none } := by
  have fired := s.fireArmed_rest
  have frame' : s.fireArmed.frame = some f := by simpa using frame
  simp only [State.fireLocked, State.setSync_eq frame']
  rw [fired]

/-- The blocks after D, with no wake time reached and the frame open. -/
theorem State.afterD_of_rests {u : State} (rests : ∀ (h : Head) (m : Member), u.member h = some m → m.Rests u.now)
    (open_ : u.frameFinished = false) : u.wakeReached.closeIfFinished = u := by
  rw [State.wakeReached_of_rests fun h f m frame member => rests h m ((State.member_some h frame).trans member),
    State.closeIfFinished_of_open open_]

/-- A decision keeps when a member is woken. -/
theorem State.abandonMember_times (h : Head) (s : State) {k : Head} {m : Member}
    (member : (State.abandonMember h s).member k = some m) :
    ∃ n : Member, s.member k = some n ∧ m.reached = n.reached ∧ m.wakeTime = n.wakeTime := by
  by_cases own : h = k
  · subst own
    have decided {o : EntryOutcome} (after : (s.member h).map (Member.decided o) = some m) :
        ∃ n : Member, s.member h = some n ∧ m.reached = n.reached ∧ m.wakeTime = n.wakeTime := by
      obtain ⟨n, there, rfl⟩ := Option.map_eq_some_iff.mp after
      refine ⟨n, there, ?_⟩
      rw [Member.decided]
      split <;> exact ⟨rfl, rfl⟩
    rcases State.abandonMember_cases h s with e | ⟨-, e⟩ | e | e
    · exact ⟨m, by rwa [e] at member, rfl, rfl⟩
    all_goals exact decided (by rw [e] at member; simpa using member)
  · obtain ⟨same, -⟩ := s.abandonMember_ne own
    exact ⟨m, same ▸ member, rfl, rfl⟩

theorem State.abandon_rests (rests : ∀ (h : Head) (m : Member), s.member h = some m → m.Rests s.now) (h : Head) (m : Member)
    (member : s.abandon.member h = some m) : m.Rests s.abandon.now := by
  rw [State.abandon_member] at member
  obtain ⟨a, memberA, reachedA, timeA⟩ := State.abandonMember_times .h3 _ member
  obtain ⟨b, memberB, reachedB, timeB⟩ := State.abandonMember_times .h2 _ memberA
  obtain ⟨c, memberC, reachedC, timeC⟩ := State.abandonMember_times .h1 _ memberB
  obtain ⟨d, memberD, reachedD, timeD⟩ := State.abandonMember_times .h0 _ memberC
  have now : s.abandon.now = s.now := by simp [State.now]
  rw [Member.Rests, now, reachedA, reachedB, reachedC, reachedD, timeA, timeB, timeC, timeD]
  exact rests h d memberD

/-- An armed member of the frame fires with what its ticket gives it. -/
theorem State.fireArmed_fires {m : Member} {h : Head} (frame : s.frame = some f) (member : f.members.get h = some m)
    (armed : (s.heads.get h).state = .armed) :
    (s.fireArmed.heads.get h).state = .exposing ∧ (s.fireArmed.triggers.get h).asserted = true
      ∧ (s.fireArmed.triggers.get h).bulb.isSome = true
      ∧ ∀ k : TicketPart, m.ticket = some k → (s.fireArmed.triggers.get h).bulb = some k.exposure := by
  obtain ⟨head, trigger⟩ := State.fireArmed_of_armed frame member armed
  rw [head, trigger]
  exact ⟨rfl, rfl, rfl, fun k ticket => State.firedTrigger_bulb ticket⟩

/-- A fire leaves each head as it was, or EXPOSING. -/
theorem State.fireArmed_state (frame : s.frame = some f) (h : Head) :
    (s.fireArmed.heads.get h).state = (s.heads.get h).state ∨ (s.fireArmed.heads.get h).state = .exposing := by
  by_cases armed : (s.heads.get h).state = .armed
  · cases member : f.members.get h with
    | none =>
      obtain ⟨head, -⟩ := State.fireArmed_of_not frame (.inl member)
      exact .inl (by rw [head])
    | some m =>
      obtain ⟨exposing, -⟩ := State.fireArmed_fires frame member armed
      exact .inr exposing
  · obtain ⟨head, -⟩ := State.fireArmed_of_not frame (.inr armed)
    exact .inl (by rw [head])

theorem State.setSync_member (s : State) (y : Sync) (h : Head) : (s.setSync y).member h = s.member h := by
  simp only [State.member_eq, State.setSync, State.modFrame_frame]
  cases s.frame <;> rfl

theorem State.fireArmed_member (s : State) (h : Head) : s.fireArmed.member h = s.member h := State.member_congr h (by simp)

theorem State.fireLocked_member_eq (s : State) (h : Head) : s.fireLocked.member h = s.member h :=
  (State.setSync_member s.fireArmed .fired h).trans (s.fireArmed_member h)

/-! ### D in each sync state, with no wake time reached -/

section

variable (frame : s.frame = some f) (reached : f.due ≤ s.now)
  (rests : ∀ (h : Head) (m : Member), s.member h = some m → m.Rests s.now) (open_ : s.frameFinished = false)

include frame reached rests open_

theorem State.dReached_free (sync : f.sync = .beforeD) :
    s.reachD.wakeReached.closeIfFinished = (s.setSync .afterD).fireArmed := by
  have inFlight : (s.setSync .afterD).frame = some { f with sync := .afterD } := by rw [State.setSync_eq frame]
  have same (h : Head) : (s.setSync .afterD).fireArmed.member h = s.member h := by
    rw [State.fireArmed_member, State.setSync_member]
  rw [State.reachD_of_free frame reached sync]
  refine State.afterD_of_rests (fun h m member => ?_) (State.frameFinished_kept open_ same fun h => ?_)
  · have now : (s.setSync .afterD).fireArmed.now = s.now := by simp [State.now]
    rw [now]
    exact rests h m (same h ▸ member)
  · simpa using State.fireArmed_state inFlight h

theorem State.dReached_complete (sync : f.sync = .waiting)
    (all : ∀ g : Head, (f.members.get g).isSome = true → (s.heads.get g).state = .armed) :
    s.reachD.wakeReached.closeIfFinished = s.fireLocked := by
  rw [State.reachD_of_locked frame reached sync, State.reachLocked_of_complete frame all]
  refine State.afterD_of_rests (fun h m member => ?_)
    (State.frameFinished_kept open_ s.fireLocked_member_eq fun h => ?_)
  · have now : s.fireLocked.now = s.now := by simp [State.now]
    rw [now]
    exact rests h m (s.fireLocked_member_eq h ▸ member)
  · simpa [State.fireLocked] using State.fireArmed_state frame h

theorem State.dReached_window (sync : f.sync = .waiting)
    (short : ∃ g : Head, (f.members.get g).isSome = true ∧ (s.heads.get g).state ≠ .armed) (window : 0 < f.phase.armWindow) :
    s.reachD.wakeReached.closeIfFinished =
      { s with frame := some { f with sync := .window }, armTimer := some (f.phase.armWindow * 1000) } := by
  rw [State.reachD_of_locked frame reached sync, State.reachLocked_of_short frame short, if_pos window,
    State.setSync_eq frame]
  have same (h : Head) : State.member { s with
      frame := some { f with sync := .window }, armTimer := some (f.phase.armWindow * 1000) } h = s.member h :=
    (State.member_some h frame).symm
  exact State.afterD_of_rests (fun h m member => rests h m (same h ▸ member))
    (State.frameFinished_kept open_ same fun h => .inl rfl)

omit open_ in
theorem State.dReached_abandon {w : Head} (sync : f.sync = .waiting)
    (short : ∃ g : Head, (f.members.get g).isSome = true ∧ (s.heads.get g).state ≠ .armed) (window : f.phase.armWindow = 0)
    (late : s.undecided w = true)
    (awake : (s.heads.get w).state = .waking ∨ (s.heads.get w).state = .ticketed ∨ (s.heads.get w).state = .armed) :
    s.reachD.wakeReached.closeIfFinished = s.abandon := by
  rw [State.reachD_of_locked frame reached sync, State.reachLocked_of_short frame short, if_neg (by omega)]
  exact State.afterD_of_rests (State.abandon_rests rests) (State.abandon_unfinished late awake)

end

end

end Sys2Proof.Machine

namespace Sys2Proof.Proofs

open Sys2Proof.Machine

/-- Settles O37. -/
theorem readyArmsOrFires : Obligations.ReadyArmsOrFires := by
  refine ⟨?_, ?_⟩
  · rintro s h tag q f m _ runs place frame member open_ ticketed same rfl
    have taken := State.takeReady_of_ticketed (s := s.rxToHunt (headPort h)) frame member open_ ticketed same
    have fires (sync : f.sync = .afterD) : ((s.rxToHunt (headPort h)).arm f h,
        ((s.rxToHunt (headPort h)).arm f h).readyReply h) = ((s.fired f m h).rxToHunt (headPort h), reply .ok [4#8, 1#8]) := by
      have exposing : (((s.rxToHunt (headPort h)).fired f m h).heads.get h).state = .exposing :=
        congrArg HeadSeq.state (Four.get_set_self _ _ _)
      rw [State.arm_of_afterD (s := s.rxToHunt _) frame member sync, State.fired_armedAt,
        State.readyReply_of_exposing exposing]
      rfl
    refine ⟨fun waits => ?_, fun k sync ticket => ?_, fun sync blank => ?_, fun sync others => ?_⟩
    · rw [State.arm_of_waiting (s := s.rxToHunt _) frame waits] at taken
      refine exec_ready (u := s.armedAt h) runs place (taken.trans ?_) rfl
      rw [State.readyReply, State.armedAt_head]
      rfl
    · have trigger : s.firedTrigger f m h = {
          asserted := true, level := decide ((s.settings.head.get h).polarity = .activeHigh), bulb := some k.exposure
          pulse := if k.mode = .timed then some (s.settings.head.get h).pulseWidth else none } := by
        rw [State.firedTrigger, Member.firing_of_ticket ticket]
      rw [← trigger]
      exact exec_ready (u := s.fired f m h) runs place (taken.trans (fires sync)) rfl
    · obtain ⟨low, high⟩ := Member.firing_range blank h f.sequence
      refine ⟨_, _, low, high, ?_, exec_ready (u := s.fired f m h) runs place (taken.trans (fires sync)) rfl⟩
      split
      · exact .inr rfl
      · exact .inl rfl
    · have arms := State.arm_of_complete (s := s.rxToHunt (headPort h)) frame sync others
      have all (g : Head) (there : (f.members.get g).isSome = true) :
          (((s.rxToHunt (headPort h)).armedAt h).heads.get g).state = .armed := by
        by_cases own : g = h
        · subst own; rw [State.armedAt_head]; rfl
        · rw [State.armedAt_head_ne _ own]; exact others g own there
      have exposing : (((s.rxToHunt (headPort h)).armedAt h).fireLocked.heads.get h).state = .exposing := by
        obtain ⟨state, -⟩ := State.fireLocked_member (s := (s.rxToHunt (headPort h)).armedAt h) frame member
          (all h (by simp [member]))
        exact state
      rw [arms, State.readyReply_of_exposing exposing] at taken
      have result : exec (.ready (headPort h) tag q) s = .next (((s.rxToHunt (headPort h)).armedAt h).fireLocked.enqueue
          (headPort h) (replyMessage .ready tag (reply .ok [4#8, 1#8]))) := by
        refine (congrArg Host.Outcome.next (State.request_taken (State.accepts_headPort runs place rfl) _)).trans ?_
        rw [headTake_headPort, taken]
      refine ⟨_, result, ?_⟩
      rw [State.enqueue_queue place (by simp [State.armedAt, State.rxToHunt])]
      simp only [State.enqueue_keeps]
      refine ⟨rfl, State.fireLocked_frame (s := (s.rxToHunt _).armedAt h) frame, fun g n there => ?_, fun g stranger => ?_, rfl⟩
      · obtain ⟨state, trigger⟩ := State.fireLocked_member (s := (s.rxToHunt (headPort h)).armedAt h) frame there
          (all g (by simp [there]))
        rw [trigger]
        exact ⟨state, rfl, rfl, fun k ticket => State.firedTrigger_bulb ticket⟩
      · obtain ⟨head, trigger⟩ := State.fireLocked_stranger (s := (s.rxToHunt (headPort h)).armedAt h) frame stranger
        have other : g ≠ h := fun e => by simp [← e, stranger] at member
        exact ⟨head.trans (State.armedAt_head_ne _ other), trigger⟩
  · rintro s u f n rests rfl rfl entry frame open_ reached wakes
    have advance : exec .secondsCountAdvance s = .next s.advanced.reachD.wakeReached.closeIfFinished := by
      rw [exec_advance rests, State.judgeAtTime_of_noEntry entry, State.tryOpen_of_frame frame]
    have wakes' (k : Head) (m : Member) (member : s.advanced.member k = some m) : m.Rests s.advanced.now :=
      wakes k m ((State.member_some k frame).symm.trans member)
    refine ⟨fun sync => ?_, fun sync all => ?_, fun sync short => ⟨fun window => ?_, fun w window late awake => ?_⟩⟩
    · rw [State.dReached_free frame reached wakes' open_ sync] at advance
      have inFlight : (s.advanced.setSync .afterD).frame = some { f with sync := .afterD } := by rw [State.setSync_eq frame]
      refine ⟨_, advance, ?_, fun h => ⟨fun m member armed => ?_, fun idle => ?_⟩⟩
      · rw [State.fireArmed_rest, State.setSync_eq frame]
      · exact State.fireArmed_fires inFlight member (by simpa using armed)
      · simpa using State.fireArmed_of_not inFlight (h := h) (by simpa using idle)
    · rw [State.dReached_complete frame reached wakes' open_ sync all] at advance
      refine ⟨_, advance, State.fireLocked_rest frame, fun h m member => ?_⟩
      simpa [State.fireLocked] using State.fireArmed_fires frame member (all h (by simp [member]))
    · rw [State.dReached_window frame reached wakes' open_ sync short window] at advance
      exact advance
    · rw [State.dReached_abandon frame reached wakes' sync short window late awake] at advance
      obtain ⟨triggers, -, -, timer⟩ := s.advanced.abandon_rest
      obtain ⟨g, inFlight, abandoned⟩ := State.abandon_frame frame
      refine ⟨_, g, advance, inFlight, abandoned, timer, triggers, fun h => ⟨fun late state => ?_, fun late armed => ?_,
        fun late asleep => ?_, fun decided => ?_⟩⟩
      · obtain ⟨member, head, -⟩ := State.abandonMembers_notReady late state
        rw [← State.abandon_member] at member
        rw [State.abandon_heads, head]
        exact ⟨State.outcomeOf_decided late member, rfl⟩
      · obtain ⟨member, head⟩ := State.abandonMembers_armed late armed
        rw [← State.abandon_member] at member
        rw [State.abandon_heads, head]
        exact ⟨State.outcomeOf_decided late member, rfl⟩
      · obtain ⟨member, -⟩ := State.abandonMembers_asleep late asleep
        rw [← State.abandon_member] at member
        exact State.outcomeOf_decided late member
      · obtain ⟨member, -⟩ := State.abandonMembers_decided decided
        rw [← State.abandon_member] at member
        exact State.outcomeOf_congr h member

end Sys2Proof.Proofs

/-! ## The need of a ticket and the ladder walk -/

namespace Sys2Proof.Machine

/-! ### cap_stops -/

section

variable (base cap : Nat)

theorem capStops_le (n : Nat) : capStops base cap n ≤ n := by
  induction n with
  | zero => exact le_rfl
  | succ n ih =>
    rw [capStops]
    split
    · exact le_rfl
    · exact ih.trans (Nat.le_succ n)

theorem durationOf_zero : durationOf base 0 = base := by
  have table : powerTable.getD (0 % 64) 65536 = 65536 := rfl
  rw [durationOf, table]
  simp

theorem durationOf_capStops_le (reach : base ≤ cap) (n : Nat) : durationOf base (capStops base cap n) ≤ cap := by
  induction n with
  | zero => rw [capStops, durationOf_zero]; exact reach
  | succ n ih =>
    rw [capStops]
    split
    · assumption
    · exact ih

/-- No more stops than cap_stops keep to the cap. -/
theorem le_capStops {total n : Nat} (some_ : n ≤ total) (fits : durationOf base n ≤ cap) : n ≤ capStops base cap total := by
  induction total with
  | zero => exact some_
  | succ total ih =>
    rw [capStops]
    split
    · exact some_
    · next beyond =>
      have : n ≠ total + 1 := fun e => beyond (e ▸ fits)
      exact ih (by omega)

end

/-! ### The effective spans -/

/-- The shutter steps that a list of segments holds. -/
theorem shutterTotal_cons (g : Segment) (rest : List Segment) :
    shutterTotal (g :: rest) = (if g.control = .shutter then g.span else 0) + shutterTotal rest := rfl

/-- What a segment's effective span is, with `left` stops of the shutter still allowed. -/
def Segment.effective (gain aperture : Bool) (left : Nat) (g : Segment) : Segment :=
  match g.control with
  | .shutter => { g with span := min g.span left }
  | .gain => { g with span := if gain then g.span else 0 }
  | .aperture => { g with span := if aperture then g.span else 0 }

theorem Segment.effective_control (gain aperture : Bool) (left : Nat) (g : Segment) :
    (g.effective gain aperture left).control = g.control := by
  cases control : g.control <;> simp [Segment.effective, control]

/-- The shutter that a segment leaves for those after it. -/
def Segment.leaves (left : Nat) (g : Segment) : Nat := if g.control = .shutter then left - min g.span left else left

theorem effectiveSpans_cons (gain aperture : Bool) (left : Nat) (g : Segment) (rest : List Segment) :
    effectiveSpans gain aperture left (g :: rest) =
      g.effective gain aperture left :: effectiveSpans gain aperture (g.leaves left) rest := by
  cases control : g.control <;> simp [effectiveSpans, Segment.effective, Segment.leaves, control]

theorem effectiveSpans_length (gain aperture : Bool) (left : Nat) (l : List Segment) :
    (effectiveSpans gain aperture left l).length = l.length := by
  induction l generalizing left with
  | nil => rfl
  | cons g rest ih => rw [effectiveSpans_cons, List.length_cons, ih, List.length_cons]

/-- The shutter that a segment takes and the shutter it leaves are what was left. -/
theorem Segment.effective_leaves (gain aperture : Bool) (left : Nat) (g : Segment) :
    g.leaves left = left - (if (g.effective gain aperture left).control = .shutter then
      (g.effective gain aperture left).span else 0) := by
  cases control : g.control <;> simp [Segment.effective, Segment.leaves, control]

/-- Each effective span, from the shutter that those before it leave. -/
theorem effectiveSpans_get (gain aperture : Bool) (left : Nat) (l : List Segment) (i : Nat) {g : Segment}
    (at_ : l[i]? = some g) : (effectiveSpans gain aperture left l)[i]? =
      some (g.effective gain aperture (left - shutterTotal ((effectiveSpans gain aperture left l).take i))) := by
  induction l generalizing left i with
  | nil => simp at at_
  | cons a rest ih =>
    rw [effectiveSpans_cons]
    cases i with
    | zero =>
      obtain rfl : a = g := by simpa using at_
      simp [shutterTotal]
    | succ i =>
      rw [List.getElem?_cons_succ, ih _ _ (by simpa using at_), List.take_succ_cons, shutterTotal_cons,
        a.effective_leaves gain aperture left, Nat.sub_sub]

/-- The effective spans hold no more shutter than was left. -/
theorem shutterTotal_effectiveSpans_le (gain aperture : Bool) (left : Nat) (l : List Segment) :
    shutterTotal (effectiveSpans gain aperture left l) ≤ left := by
  induction l generalizing left with
  | nil => exact Nat.zero_le _
  | cons g rest ih =>
    have rest_ := ih (g.leaves left)
    rw [effectiveSpans_cons, shutterTotal_cons]
    cases control : g.control <;>
      simp only [Segment.effective, Segment.leaves, control] at rest_ ⊢ <;> simp at rest_ ⊢ <;> omega

/-! ### The need -/

section

variable {x : TicketInputs}

/-- The clamped need lies in 0 to the top for any reading. -/
theorem TicketInputs.clampedNeed_of_reading {v : Int} (reading : x.bv = some v) :
    x.clampedNeed = max 0 (min (x.targetNeed v) x.top) := by
  rw [TicketInputs.clampedNeed, reading]
  exact clampInt_eq _ (Int.natCast_nonneg _)

theorem TicketInputs.clampedNeed_of_none (none : x.bv = none) : x.clampedNeed = x.need.getD 0 := by
  rw [TicketInputs.clampedNeed, none]

theorem TicketInputs.clampedNeed_nonneg (x : TicketInputs) : 0 ≤ x.clampedNeed := by
  cases reading : x.bv with
  | none => rw [TicketInputs.clampedNeed_of_none reading]; exact Int.natCast_nonneg _
  | some v => rw [TicketInputs.clampedNeed_of_reading reading]; exact le_max_left _ _

theorem TicketInputs.newNeed_of_unseeded (unseeded : x.need = none) : (x.newNeed : Int) = x.clampedNeed := by
  rw [TicketInputs.newNeed, unseeded]
  exact Int.toNat_of_nonneg x.clampedNeed_nonneg

theorem TicketInputs.newNeed_of_seeded {a : Nat} (seeded : x.need = some a) : (x.newNeed : Int) =
    max 0 (min (a + smoothingStep x.deadband x.smoothingWeight x.slewLimit a x.clampedNeed) x.top) := by
  rw [TicketInputs.newNeed, seeded]
  dsimp only
  rw [clampInt_eq _ (Int.natCast_nonneg _)]
  exact Int.toNat_of_nonneg (le_max_left _ _)

end

/-! ### One step of the smoothing -/

section

variable {deadband weight slew : Nat} {prev nc d : Int}

theorem smoothingStep_of_deadband (dIs : d = nc - prev) (within : d.natAbs ≤ deadband) :
    smoothingStep deadband weight slew prev nc = 0 := by
  subst dIs; exact if_pos within

theorem smoothingStep_of_moved (dIs : d = nc - prev) (outside : deadband < d.natAbs) (moves : sixteenths d weight ≠ 0) :
    smoothingStep deadband weight slew prev nc = max (-(slew : Int)) (min (sixteenths d weight) slew) := by
  subst dIs
  rw [smoothingStep, if_neg (by omega)]
  dsimp only
  rw [if_neg moves, clampInt_eq _ (by omega)]

theorem smoothingStep_of_stuck (dIs : d = nc - prev) (outside : deadband < d.natAbs) (stuck : sixteenths d weight = 0)
    (slews : 1 ≤ slew) : smoothingStep deadband weight slew prev nc = if 0 < d then 1 else -1 := by
  subst dIs
  rw [smoothingStep, if_neg (by omega)]
  dsimp only
  rw [if_pos stuck, clampInt_eq _ (by omega)]
  split <;> omega

/-- A weight of at most sixteen sixteenths moves toward the need and not past it. -/
theorem sixteenths_bounds (d : Int) {weight : Nat} (most : weight ≤ 16) :
    (0 ≤ d → 0 ≤ sixteenths d weight ∧ sixteenths d weight ≤ d) ∧ (d ≤ 0 → d ≤ sixteenths d weight ∧ sixteenths d weight ≤ 0) := by
  have up {e : Int} (pos : 0 ≤ e) : 0 ≤ sixteenths e weight ∧ sixteenths e weight ≤ e := by
    have low : 0 ≤ e * weight := Int.mul_nonneg pos (Int.natCast_nonneg _)
    have high : e * weight ≤ e * 16 := Int.mul_le_mul_of_nonneg_left (by omega) pos
    rw [sixteenths, Int.tdiv_eq_ediv_of_nonneg low]
    omega
  refine ⟨up, fun neg => ?_⟩
  have mirror : sixteenths d weight = -sixteenths (-d) weight := by
    rw [sixteenths, sixteenths, Int.neg_mul, Int.neg_tdiv, Int.neg_neg]
  obtain ⟨low, high⟩ := up (e := -d) (by omega)
  omega

end

/-! ### The ladder walk -/

theorem walk_cons (c : Control) (left : Nat) (g : Segment) (rest : List Segment) : walk c left (g :: rest) =
    (if g.control = c then min left g.span else 0) + walk c (left - min left g.span) rest := rfl

/-- The three controls share what the ladder can take of the need. -/
theorem walk_all (left : Nat) (l : List Segment) :
    walk .shutter left l + walk .gain left l + walk .aperture left l = min left (ladderTotal l) := by
  induction l generalizing left with
  | nil => simp [walk, ladderTotal]
  | cons g rest ih =>
    have rest_ := ih (left - min left g.span)
    have total : ladderTotal (g :: rest) = g.span + ladderTotal rest := rfl
    rw [walk_cons, walk_cons, walk_cons, total]
    cases control : g.control <;> simp <;> omega

theorem walk_shutter_le (left : Nat) (l : List Segment) : walk .shutter left l ≤ shutterTotal l := by
  induction l generalizing left with
  | nil => exact le_rfl
  | cons g rest ih =>
    have rest_ := ih (left - min left g.span)
    rw [walk_cons, shutterTotal_cons]
    split <;> omega

/-- A control whose effective spans are all empty takes nothing. -/
theorem walk_of_absent (c : Control) (l : List Segment) (absent : ∀ g ∈ l, g.control = c → g.span = 0) (left : Nat) :
    walk c left l = 0 := by
  induction l generalizing left with
  | nil => rfl
  | cons g rest ih =>
    rw [walk_cons, ih fun a here => absent a (List.mem_cons_of_mem _ here)]
    split
    · next own => rw [absent g List.mem_cons_self own]; simp
    · rfl

theorem effectiveSpans_mem {gain aperture : Bool} {left : Nat} {l : List Segment} {e : Segment}
    (here : e ∈ effectiveSpans gain aperture left l) : ∃ (g : Segment) (n : Nat), e = g.effective gain aperture n := by
  induction l generalizing left with
  | nil => simp [effectiveSpans] at here
  | cons g rest ih =>
    rw [effectiveSpans_cons] at here
    rcases List.mem_cons.mp here with rfl | later
    · exact ⟨g, left, rfl⟩
    · exact ih later

theorem Segment.effective_gain (aperture : Bool) (n : Nat) (g : Segment)
    (gain : (g.effective false aperture n).control = .gain) : (g.effective false aperture n).span = 0 := by
  rw [Segment.effective_control] at gain
  simp [Segment.effective, gain]

theorem Segment.effective_aperture (gain : Bool) (n : Nat) (g : Segment)
    (aperture : (g.effective gain false n).control = .aperture) : (g.effective gain false n).span = 0 := by
  rw [Segment.effective_control] at aperture
  simp [Segment.effective, aperture]

theorem TicketInputs.newNeed_le_top (x : TicketInputs) : x.newNeed ≤ x.top := by
  cases need : x.need with
  | none =>
    have new := TicketInputs.newNeed_of_unseeded need
    cases reading : x.bv with
    | none => rw [TicketInputs.clampedNeed_of_none reading, need] at new; simp at new; omega
    | some v => rw [TicketInputs.clampedNeed_of_reading reading] at new; omega
  | some a =>
    have new := TicketInputs.newNeed_of_seeded need
    omega

/-! ### The duration -/

theorem durationOf_eq (base q : Nat) {r : Nat} (low : r < 64) :
    durationOf base (64 * q + r) = base * powerTable.getD r 0 * 2 ^ q / 65536 := by
  have index : (64 * q + r) % 64 = r := by omega
  have octave : (64 * q + r) / 64 = q := by omega
  have inside : r < powerTable.length := low
  rw [durationOf, index, octave, List.getD_eq_getElem _ _ inside, List.getD_eq_getElem _ _ inside]

/-- Each entry of the table is the nearest integer to 65536 times 2^(r/64). -/
def nearestPower (v r : Nat) : Bool :=
  decide ((2 * v - 1) ^ 64 < 131072 ^ 64 * 2 ^ r) && decide (131072 ^ 64 * 2 ^ r < (2 * v + 1) ^ 64)

theorem powerTable_nearest : (powerTable.zipIdx.all fun e => nearestPower e.1 e.2) = true := by decide

/-- No entry is above the next, nor the last above twice the first. -/
theorem powerTable_mono : ∀ r : Fin 63, powerTable.getD r 0 ≤ powerTable.getD (r + 1) 0 := by decide

theorem durationOf_step (base n : Nat) : durationOf base n ≤ durationOf base (n + 1) := by
  obtain ⟨q, r, low, rfl⟩ : ∃ q r : Nat, r < 64 ∧ n = 64 * q + r := ⟨n / 64, n % 64, by omega, by omega⟩
  rw [durationOf_eq base q low]
  rcases Nat.lt_or_ge r 63 with inner | last
  · rw [Nat.add_assoc, durationOf_eq base q (r := r + 1) (by omega)]
    exact Nat.div_le_div_right (Nat.mul_le_mul_right _ (Nat.mul_le_mul_left _ (powerTable_mono ⟨r, inner⟩)))
  · obtain rfl : r = 63 := by omega
    have next : 64 * q + 63 + 1 = 64 * (q + 1) + 0 := by omega
    rw [next, durationOf_eq base (q + 1) (r := 0) (by omega)]
    have first : powerTable.getD 0 0 = 65536 := rfl
    have final : powerTable.getD 63 0 = 129660 := rfl
    rw [first, final, pow_succ]
    refine Nat.div_le_div_right ?_
    nlinarith [Nat.zero_le (base * 2 ^ q)]

theorem durationOf_mono (base : Nat) {m n : Nat} (le : m ≤ n) : durationOf base m ≤ durationOf base n :=
  monotone_nat_of_le_succ (durationOf_step base) le

theorem base_le_shutterCap {base interval reserve : Nat} (high : base ≤ 1000) :
    base ≤ shutterCap interval reserve base := by
  rw [shutterCap]
  split
  · omega
  · exact le_rfl

end Sys2Proof.Machine

namespace Sys2Proof.Proofs

open Sys2Proof.Machine

/-- Settles O45. -/
theorem smoothingStaysInTheSlew : Obligations.SmoothingStaysInTheSlew := by
  refine ⟨?_, fun x cap total capIs totalIs => ?_, fun x n => ?_, fun x a d step need slew dIs stepIs => ?_⟩
  · rintro s f h _ rfl
    exact ⟨rfl, rfl, rfl, rfl, rfl, rfl, rfl, rfl, rfl, rfl, rfl, rfl, rfl, rfl⟩
  · rw [← shutterTotal_eq] at totalIs
    have stops : x.capStops = capStops x.base cap total := by rw [capIs, totalIs]; rfl
    refine ⟨stops ▸ capStops_le _ _ _, fun reach => stops ▸ durationOf_capStops_le _ _ reach _,
      fun n some_ fits => stops ▸ le_capStops _ _ some_ fits, ?_, effectiveSpans_length _ _ _ _, ladderTotal_eq _,
      fun i g there => ⟨_, effectiveSpans_get _ _ _ _ i there, g.effective_control _ _ _, fun shutter => ?_, fun gain => ?_,
        fun aperture => ?_⟩⟩
    · rw [totalIs]; exact decide_eq_true_iff
    · rw [← shutterTotal_eq, Segment.effective, shutter]; rfl
    · rw [Segment.effective, gain]
    · rw [Segment.effective, aperture]
  · refine ⟨fun v reading nIs => ?_, fun none => ?_, fun unseeded => ?_, fun seeded => ?_⟩
    · have target : x.targetNeed v = n := nIs.symm
      rw [TicketInputs.clampedNeed_of_reading reading, target]
      simp only [TicketInputs.flags, reading, target]
      simp only [Option.isNone_some, decide_eq_true_eq, decide_eq_false_iff_not, true_and]
      omega
    · refine ⟨by simp [TicketInputs.flags, none], by simp [TicketInputs.flags, none], by simp [TicketInputs.flags, none],
        fun a seeded => ?_, fun unseeded => ?_⟩
      · rw [TicketInputs.clampedNeed_of_none none, seeded]; rfl
      · have zero := TicketInputs.newNeed_of_unseeded unseeded
        rw [TicketInputs.clampedNeed_of_none none, unseeded] at zero
        simpa using zero
    · exact ⟨by simp [TicketInputs.flags, unseeded], TicketInputs.newNeed_of_unseeded unseeded⟩
    · obtain ⟨a, seeded⟩ := Option.isSome_iff_exists.mp seeded
      simp [TicketInputs.flags, seeded]
  · have new := TicketInputs.newNeed_of_seeded need
    have stepIs' : step = sixteenths d x.smoothingWeight := stepIs
    have within (h : d.natAbs ≤ x.deadband) := smoothingStep_of_deadband (weight := x.smoothingWeight) (slew := x.slewLimit) dIs h
    have moved (h : x.deadband < d.natAbs) (k : step ≠ 0) :=
      smoothingStep_of_moved (slew := x.slewLimit) dIs h (stepIs' ▸ k)
    have stuck (h : x.deadband < d.natAbs) (k : step = 0) := smoothingStep_of_stuck dIs h (stepIs' ▸ k) slew
    rw [← stepIs'] at moved
    generalize smoothingStep x.deadband x.smoothingWeight x.slewLimit a x.clampedNeed = e at new within moved stuck
    have slewed : -(x.slewLimit : Int) ≤ e ∧ e ≤ x.slewLimit := by
      rcases Nat.lt_or_ge x.deadband d.natAbs with h | h
      · by_cases k : step = 0
        · rw [stuck h k]; split <;> omega
        · rw [moved h k]; omega
      · rw [within h]; omega
    refine ⟨by omega, by omega, fun h => ?_, fun h k => ?_, fun h k => ?_, fun h top least most => ?_⟩
    · rw [within h] at new; omega
    · rw [new, moved h k]
    · rw [new, stuck h k]
      split <;> rfl
    · obtain ⟨up, down⟩ := sixteenths_bounds d most
      rw [← stepIs'] at up down
      have reach : x.clampedNeed ≤ x.top := by
        cases reading : x.bv with
        | none => rw [TicketInputs.clampedNeed_of_none reading, need]; simpa using top
        | some v => rw [TicketInputs.clampedNeed_of_reading reading]; omega
      have low := x.clampedNeed_nonneg
      by_cases k : step = 0
      · have e_ := stuck h k
        split at e_ <;> omega
      · have e_ := moved h k
        omega

/-- Settles O46. -/
theorem ladderWalkPlacesTheNeed : Obligations.LadderWalkPlacesTheNeed := by
  refine ⟨fun x => ?_, fun x => ⟨rfl, rfl, rfl, rfl, rfl⟩, fun c left g rest => ⟨rfl, rfl⟩,
    fun base q r low => durationOf_eq base q low, fun r v there => ?_⟩
  · have stops : walk .shutter x.newNeed x.spans ≤ x.capStops :=
      (walk_shutter_le _ _).trans (shutterTotal_effectiveSpans_le _ _ _ _)
    refine ⟨(walk_all _ _).trans (min_eq_left x.newNeed_le_top), fun none => ?_, fun none => ?_, stops, fun low high some_ =>
      ⟨?_, ?_⟩⟩
    · refine walk_of_absent _ _ (fun e here gain => ?_) _
      rw [TicketInputs.spans, none] at here
      obtain ⟨g, n, rfl⟩ := effectiveSpans_mem here
      exact g.effective_gain _ _ gain
    · refine walk_of_absent _ _ (fun e here aperture => ?_) _
      rw [TicketInputs.spans, none] at here
      obtain ⟨g, n, rfl⟩ := effectiveSpans_mem here
      exact g.effective_aperture _ _ aperture
    · exact (durationOf_zero _).symm.le.trans (durationOf_mono _ (Nat.zero_le _))
    · exact (durationOf_mono _ stops).trans (durationOf_capStops_le _ _ (base_le_shutterCap high) _)
  · have entry : (v, r) ∈ powerTable.zipIdx := List.mem_zipIdx_iff_getElem?.mpr there
    have nearest := List.all_eq_true.mp powerTable_nearest _ entry
    obtain ⟨inside, -⟩ := List.getElem?_eq_some_iff.mp there
    rw [nearestPower, Bool.and_eq_true, decide_eq_true_iff, decide_eq_true_iff] at nearest
    exact ⟨inside, nearest⟩

end Sys2Proof.Proofs

/-! ## The catalogue of settings -/

namespace Sys2Proof.Machine

/-! ### What is stored reads back -/

theorem ValueRule.settle_unsigned {lo hi : Nat} (raw : BitVec 32) (range : lo ≤ hi) :
    (ValueRule.settle raw (.unsigned lo hi)).1 = max lo (min raw.toNat hi)
      ∧ (ValueRule.settle raw (.unsigned lo hi)).2 = if lo ≤ raw.toNat ∧ raw.toNat ≤ hi then .ok else .clamped := by
  refine ⟨congrArg Nat.cast (fitNat_fst raw.toNat range), ?_⟩
  rw [ValueRule.settle]
  split_ifs with moved inside inside
  · exact absurd ((fitNat_snd_iff _ range).mp moved) (by omega)
  · rfl
  · rfl
  · exact absurd ((fitNat_snd_iff _ range).mpr (by omega)) moved

theorem ValueRule.settle_signed {lo hi : Int} (raw : BitVec 32) (range : lo ≤ hi) :
    (ValueRule.settle raw (.signed lo hi)).1 = max lo (min raw.toInt hi)
      ∧ (ValueRule.settle raw (.signed lo hi)).2 = if lo ≤ raw.toInt ∧ raw.toInt ≤ hi then .ok else .clamped := by
  refine ⟨fitInt_fst raw.toInt range, ?_⟩
  rw [ValueRule.settle]
  split_ifs with moved inside inside
  · exact absurd ((fitInt_snd_iff _ range).mp moved) (by omega)
  · rfl
  · rfl
  · exact absurd ((fitInt_snd_iff _ range).mpr (by omega)) moved

theorem ValueRule.settle_coded_le (top : Nat) {default : Nat} (raw : BitVec 32) (inside : default ≤ top) :
    ∃ n ≤ top, (ValueRule.settle raw (.coded top default)).1 = (n : Int) := by
  rw [ValueRule.settle]
  split
  next fits => exact ⟨_, fits, rfl⟩
  next => exact ⟨_, inside, rfl⟩

theorem edgeCode_edgeOfCode {n : Nat} (h : n ≤ 1) : edgeCode (edgeOfCode n) = n := by interval_cases n <;> rfl

theorem code_pushOfCode {n : Nat} (h : n ≤ 1) : (pushOfCode n).code = n := by interval_cases n <;> rfl

theorem code_modeOfCode {n : Nat} (h : n ≤ 1) : (modeOfCode n).code = n := by interval_cases n <;> rfl

theorem code_polarityOfCode {n : Nat} (h : n ≤ 1) : (polarityOfCode n).code = n := by interval_cases n <;> rfl

theorem code_speedOfCode {n : Nat} (h : n ≤ 3) : (speedOfCode n).code = n := by interval_cases n <;> rfl

theorem controls_of_bits {n : Nat} (h : n ≤ 3) : (n.testBit 0).toNat + 2 * (n.testBit 1).toNat = n := by
  interval_cases n <;> rfl

theorem headSetByte_headSetOfByte {n : Nat} (h : n ≤ 15) :
    (headSetByte (headSetOfByte (BitVec.ofInt 8 (n : Int)))).toNat = n := by interval_cases n <;> rfl

theorem Settings.store_value_self (x : Settings) (a : Setting) (raw : BitVec 32) :
    (x.store (a.rule.settle raw).1 a).value a = (a.rule.settle raw).1 := by
  cases a with
  | edge =>
    obtain ⟨n, code, stored⟩ := ValueRule.settle_coded_le 1 raw (Nat.zero_le 1)
    rw [Setting.rule, stored]; exact congrArg Nat.cast (edgeCode_edgeOfCode code)
  | reserveMask =>
    obtain ⟨n, code, stored⟩ := ValueRule.settle_coded_le 15 raw (show 1 ≤ 15 by decide)
    rw [Setting.rule, stored]; exact congrArg Nat.cast (headSetByte_headSetOfByte code)
  | push st =>
    obtain ⟨n, code, stored⟩ := ValueRule.settle_coded_le 1 raw (Nat.zero_le 1)
    rw [Setting.rule, stored, Settings.value, Settings.store, Two.get_set_self]
    exact congrArg Nat.cast (code_pushOfCode code)
  | lineSpeed p =>
    obtain ⟨n, code, stored⟩ := ValueRule.settle_coded_le 3 raw (show 2 ≤ 3 by decide)
    rw [Setting.rule, stored, Settings.value, Settings.store, Settings.modPort, Six.get_set_self]
    exact congrArg Nat.cast (code_speedOfCode code)
  | controls h =>
    obtain ⟨n, code, stored⟩ := ValueRule.settle_coded_le 3 raw le_rfl
    rw [Setting.rule, stored, Settings.value, Settings.store, Settings.modHead, Four.get_set_self]
    exact congrArg Nat.cast (controls_of_bits code)
  | triggerMode h =>
    obtain ⟨n, code, stored⟩ := ValueRule.settle_coded_le 1 raw (Nat.zero_le 1)
    rw [Setting.rule, stored, Settings.value, Settings.store, Settings.modHead, Four.get_set_self]
    exact congrArg Nat.cast (code_modeOfCode code)
  | polarity h =>
    obtain ⟨n, code, stored⟩ := ValueRule.settle_coded_le 1 raw (Nat.zero_le 1)
    rw [Setting.rule, stored, Settings.value, Settings.store, Settings.modHead, Four.get_set_self]
    exact congrArg Nat.cast (code_polarityOfCode code)
  | errorThreshold p => simp only [Settings.value, Settings.store, Settings.modPort, Six.get_set_self]; rfl
  | lead h | helloTimeout h | readyTimeout h | resultTimeout h | standbyThreshold h | missLimit h | cycleReserve h
  | current h | pulseWidth h => simp only [Settings.value, Settings.store, Settings.modHead, Four.get_set_self]; rfl
  | _ => rfl

/-! ### Which item codes name a setting -/

theorem globalSetting_isSome_iff (item : Nat) : (globalSetting item).isSome = true ↔ 0x01 ≤ item ∧ item ≤ 0x10 := by
  constructor
  · intro named
    unfold globalSetting at named
    split at named <;> first | omega | cases named
  · rintro ⟨low, high⟩
    interval_cases item <;> rfl

theorem headSetting_isSome_iff (h : Head) (item : Nat) :
    (headSetting h item).isSome = true ↔ 0x30 ≤ item ∧ item ≤ 0x3B := by
  constructor
  · intro named
    unfold headSetting at named
    split at named <;> first | omega | cases named
  · rintro ⟨low, high⟩
    interval_cases item <;> rfl

theorem portSetting_isSome_iff (p : Port) (item : Nat) :
    (portSetting p item).isSome = true ↔ (item = 0x18 ∧ (portStation? p).isSome = true) ∨ item = 0x20 ∨ item = 0x21 := by
  constructor
  · intro named
    unfold portSetting at named
    split at named
    · exact .inl ⟨rfl, Option.isSome_map.symm.trans named⟩
    · exact .inr (.inl rfl)
    · exact .inr (.inr rfl)
    · cases named
  · rintro (⟨rfl, station⟩ | rfl | rfl)
    · exact Option.isSome_map.trans station
    · rfl
    · rfl

theorem settingOf_isSome (item index : Nat) : (settingOf item index).isSome =
    ((globalSetting item).isSome || ((headOfNat index).bind fun h => headSetting h item).isSome
      || ((portOfNat index).bind fun p => portSetting p item).isSome) := by
  rw [settingOf]
  cases globalSetting item with
  | some g => rfl
  | none =>
    cases (headOfNat index).bind fun h => headSetting h item with
    | some x => rfl
    | none => rfl

theorem headSettings_isSome_iff (item index : Nat) :
    ((headOfNat index).bind fun h => headSetting h item).isSome = true ↔ 0x30 ≤ item ∧ item ≤ 0x3B ∧ index ≤ 3 := by
  rcases Nat.lt_or_ge 3 index with high | low
  · rw [headOfNat_none high, Option.bind_none]; exact iff_of_false (by decide) (by omega)
  · obtain ⟨h, rfl⟩ := headOfNat_le low
    rw [headOfNat_code, Option.bind_some, headSetting_isSome_iff]; omega

theorem portOfNat_le {n : Nat} (h : n ≤ 5) : ∃ p : Port, n = portCode p := by
  interval_cases n
  exacts [⟨.h0, rfl⟩, ⟨.h1, rfl⟩, ⟨.h2, rfl⟩, ⟨.h3, rfl⟩, ⟨.ul, rfl⟩, ⟨.sv, rfl⟩]

theorem portSettings_isSome_iff (item index : Nat) :
    ((portOfNat index).bind fun p => portSetting p item).isSome = true ↔
      (item = 0x18 ∧ (index = 4 ∨ index = 5)) ∨ ((item = 0x20 ∨ item = 0x21) ∧ index ≤ 5) := by
  rcases Nat.lt_or_ge 5 index with high | low
  · rw [portOfNat_none high, Option.bind_none]; exact iff_of_false (by decide) (by omega)
  · obtain ⟨p, rfl⟩ := portOfNat_le low
    have stations : (portStation? p).isSome = true ↔ portCode p = 4 ∨ portCode p = 5 := by cases p <;> decide
    rw [portOfNat_code, Option.bind_some, portSetting_isSome_iff, stations]
    omega

theorem settingOf_isSome_iff (item index : Nat) : (settingOf item index).isSome = true ↔
    (0x01 ≤ item ∧ item ≤ 0x10) ∨ (item = 0x18 ∧ (index = 4 ∨ index = 5)) ∨ ((item = 0x20 ∨ item = 0x21) ∧ index ≤ 5)
      ∨ (0x30 ≤ item ∧ item ≤ 0x3B ∧ index ≤ 3) := by
  rw [settingOf_isSome, Bool.or_eq_true, Bool.or_eq_true, headSettings_isSome_iff, portSettings_isSome_iff,
    globalSetting_isSome_iff]
  omega

/-! ### A store touches one setting -/

/-- The head that a setting belongs to; `none` for a setting of the part, of a station or of a port. -/
def Setting.head? : Setting → Option Head
  | .lead h | .helloTimeout h | .readyTimeout h | .resultTimeout h | .standbyThreshold h | .missLimit h => some h
  | .cycleReserve h | .controls h | .current h | .triggerMode h | .pulseWidth h | .polarity h => some h
  | .key | .calibration | .meterPeriod | .hysteresis | .darkFloor | .settle | .edge | .shutterBase => none
  | .correctionLimit | .economyThreshold | .reserveThreshold | .haltThreshold | .tierHysteresis => none
  | .allowance | .reserveMask | .fillLevel | .push _ | .lineSpeed _ | .errorThreshold _ => none

theorem Settings.modHead_value (x : Settings) {h : Head} (f : HeadSettings → HeadSettings) {b : Setting}
    (elsewhere : b.head? ≠ some h) : (x.modHead h f).value b = x.value b := by
  cases b with
  | lead g | helloTimeout g | readyTimeout g | resultTimeout g | standbyThreshold g | missLimit g | cycleReserve g
  | controls g | current g | triggerMode g | pulseWidth g | polarity g =>
    have apart : g ≠ h := fun same => elsewhere (congrArg some same)
    simp only [Settings.value, Settings.modHead, Four.get_set_ne _ _ apart]
  | _ => rfl

theorem Settings.modPort_value (x : Settings) {p : Port} (f : PortSettings → PortSettings) {b : Setting}
    (speed : b ≠ .lineSpeed p) (threshold : b ≠ .errorThreshold p) : (x.modPort p f).value b = x.value b := by
  cases b with
  | lineSpeed q | errorThreshold q =>
    have apart : q ≠ p := by rintro rfl; contradiction
    simp only [Settings.value, Settings.modPort, Six.get_set_ne _ _ apart]
  | _ => rfl

theorem Settings.store_value_ne (x : Settings) (v : Int) {a b : Setting} (other : a ≠ b) :
    (x.store v a).value b = x.value b := by
  cases a with
  | push st =>
    cases b with
    | push y => rw [Settings.value, Settings.store, Two.get_set_ne _ _ (by rintro rfl; contradiction)]; rfl
    | _ => rfl
  | lineSpeed p =>
    by_cases same : b = .errorThreshold p
    · subst same; simp only [Settings.store, Settings.value, Settings.modPort, Six.get_set_self]
    · exact x.modPort_value _ other.symm same
  | errorThreshold p =>
    by_cases same : b = .lineSpeed p
    · subst same; simp only [Settings.store, Settings.value, Settings.modPort, Six.get_set_self]
    · exact x.modPort_value _ same other.symm
  | lead h | helloTimeout h | readyTimeout h | resultTimeout h | standbyThreshold h | missLimit h | cycleReserve h
  | controls h | current h | triggerMode h | pulseWidth h | polarity h =>
    by_cases own : b.head? = some h
    · cases b <;> cases own <;>
        simp_all only [Settings.store, Settings.value, Settings.modHead, Four.get_set_self, controlsCode, ne_eq,
          not_true_eq_false]
    · exact x.modHead_value _ own
  | _ => cases b <;> trivial

end Sys2Proof.Machine

namespace Sys2Proof.Proofs

open Sys2Proof.Machine

/-- Settles O20: a stored value is the nearer end of its range or its code, which `store` and `value` exchange. -/
theorem storedSettingReadsBack : Obligations.StoredSettingReadsBack := by
  unfold Obligations.StoredSettingReadsBack
  refine ⟨fun x a b raw => ⟨x.store_value_self a raw, x.store_value_ne _⟩, fun _ _ raw => ValueRule.settle_unsigned raw,
    fun _ _ raw => ValueRule.settle_signed raw, fun top default raw => ⟨fun inside => if_pos inside, fun outside => if_neg (not_le.mpr outside)⟩,
    ⟨rfl, rfl, rfl, rfl, rfl, rfl, rfl, rfl, rfl, rfl, rfl, rfl, rfl, rfl, rfl, rfl⟩, fun st p => ⟨rfl, rfl, rfl⟩,
    fun h => ⟨rfl, rfl, rfl, rfl, rfl, rfl, rfl, rfl, rfl, rfl, rfl, rfl⟩, fun i => ⟨rfl, rfl⟩, rfl, rfl, ?_, ?_,
    settingOf_isSome_iff, ?_, rfl, rfl, rfl, rfl, ?_, ?_⟩
  · intro p; cases p <;> exact ⟨rfl, rfl⟩
  · intro h; cases h <;> exact ⟨rfl, rfl⟩
  · intro x
    refine ⟨rfl, rfl, ?_, rfl, fun st => ?_, fun p => ⟨rfl, rfl⟩, ?_⟩
    · cases e : x.edge <;> simp [Settings.value, e, edgeCode]
    · cases e : x.push.get st <;> simp [Settings.value, e, PushMode.code]
    · rintro h y rfl
      refine ⟨rfl, rfl, ?_, ?_, ?_⟩
      · cases g : (x.head.get h).gainControl <;> cases a : (x.head.get h).apertureControl <;>
          simp [Settings.value, controlsCode, g, a]
      · cases e : (x.head.get h).triggerMode <;> simp [Settings.value, e, TriggerMode.code]
      · cases e : (x.head.get h).polarity <;> simp [Settings.value, e, Polarity.code]
  · intro st p; cases st <;> cases p <;> rfl
  · intro h; cases h <;> exact ⟨rfl, rfl⟩

end Sys2Proof.Proofs

/-! ## An open frame stays open, and how an event without a frame ends -/

namespace Sys2Proof.Machine

/-! ### A frame that has just opened is not finished -/

section

variable {s : State} {h : Head}

/-- The head is neither OFF nor STANDBY. -/
def State.Awake (s : State) (h : Head) : Prop := (s.heads.get h).state ≠ .off ∧ (s.heads.get h).state ≠ .standby

theorem State.unfinished_of_awake (member : (s.member h).isSome = true) (awake : s.Awake h) : s.frameFinished = false := by
  obtain ⟨m, entry⟩ := Option.isSome_iff_exists.mp member
  obtain ⟨on, busy⟩ := awake
  exact State.frameFinished_false (g := h) (by simp [State.memberFinished, entry, on, busy])

theorem State.unfinished_of_undecided (undecided : s.undecided h = true) : s.frameFinished = false := by
  obtain ⟨m, entry, outcome⟩ := (State.undecided_iff _ _).mp undecided
  exact State.frameFinished_false (g := h) (by simp [State.memberFinished, entry, outcome])

theorem State.abandon_awake (awake : s.Awake h) : s.abandon.Awake h := by
  obtain ⟨on, busy⟩ := awake
  have stays (decided : (forHeads State.abandonMember s).heads.get h = s.heads.get h) : s.abandon.Awake h := by
    rw [State.Awake, State.abandon_heads, decided]; exact ⟨on, busy⟩
  have closes {x : HeadSeq} (closing : (forHeads State.abandonMember s).heads.get h = x.enterClosing) : s.abandon.Awake h := by
    rw [State.Awake, State.abandon_heads, closing]; exact ⟨nofun, nofun⟩
  cases undecided : s.undecided h with
  | false => exact stays (State.abandonMembers_decided undecided).2
  | true =>
    have past (e : (s.heads.get h).state = .exposing ∨ (s.heads.get h).state = .reporting ∨ (s.heads.get h).state = .closing) :
        s.abandon.Awake h := by
      refine stays (State.abandonMembers_at (entry := s.member h) (raised := False) fun t member head _ => ?_).2.1
      rw [State.abandonMember_of_past (by rwa [head])]
      exact ⟨member, head, nofun⟩
    cases state : (s.heads.get h).state with
    | off => exact absurd state on
    | standby => exact absurd state busy
    | waking => exact closes (State.abandonMembers_notReady undecided (.inl state)).2.1
    | ticketed => exact closes (State.abandonMembers_notReady undecided (.inr state)).2.1
    | armed => exact closes (State.abandonMembers_armed undecided state).2
    | exposing => exact past (.inl state)
    | reporting => exact past (.inr (.inl state))
    | closing => exact past (.inr (.inr state))

theorem State.fireArmed_awake (awake : s.Awake h) : s.fireArmed.Awake h := by
  obtain ⟨on, busy⟩ := awake
  unfold State.Awake
  cases frame : s.frame with
  | none =>
    have still : s.fireArmed = s := by simp [State.fireArmed, forHeads, State.fireIfArmed, State.armedMember, State.member_eq, frame]
    rw [still]; exact ⟨on, busy⟩
  | some f =>
    rcases State.fireArmed_state frame h with same | fired
    · rw [same]; exact ⟨on, busy⟩
    · rw [fired]; exact ⟨nofun, nofun⟩

theorem State.Awake.of_heads {t : State} (heads : t.heads = s.heads) (awake : s.Awake h) : t.Awake h := by
  rwa [State.Awake, heads]

theorem State.reachD_awake (awake : s.Awake h) : s.reachD.Awake h := by
  unfold State.reachD
  split
  · exact awake
  · split
    · split
      · exact State.fireArmed_awake (awake.of_heads (by simp [State.setSync]))
      · unfold State.reachLocked
        split
        · exact (State.fireArmed_awake awake).of_heads (by simp [State.fireLocked, State.setSync])
        · split
          · exact awake.of_heads (by simp [State.setSync])
          · exact State.abandon_awake awake
      all_goals exact awake
    · exact awake

@[simp] theorem State.modMember_member_self (s : State) (h : Head) (g : Member → Member) :
    (s.modMember h g).member h = (s.member h).map g := by
  simp only [State.member_eq, State.modMember_frame]; cases s.frame <;> simp

@[simp] theorem State.modMember_member_ne (s : State) {h k : Head} (g : Member → Member) (other : k ≠ h) :
    (s.modMember h g).member k = s.member k := by
  simp only [State.member_eq, State.modMember_frame]; cases s.frame <;> simp [other]

@[simp] theorem State.wake_member (s : State) (f : Frame) (h k : Head) : (s.wake f h).member k = s.member k :=
  State.member_congr k (by simp)

theorem State.wake_head_ne (s : State) (f : Frame) {h k : Head} (other : k ≠ h) :
    (s.wake f h).heads.get k = s.heads.get k := by
  unfold State.wake State.enterWaking
  split <;> simp [other]

theorem State.wake_awake (s : State) (f : Frame) (h : Head) : (s.wake f h).Awake h := by
  unfold State.wake State.enterWaking State.Awake
  split <;> simp_all [HeadSeq.enter]

theorem State.wakeIfReached_ne (s : State) {h k : Head} (other : k ≠ h) :
    (State.wakeIfReached h s).member k = s.member k ∧ (State.wakeIfReached h s).heads.get k = s.heads.get k := by
  unfold State.wakeIfReached
  split
  · exact ⟨rfl, rfl⟩
  · split
    · exact ⟨rfl, rfl⟩
    · split
      · split <;> simp [other, State.wake_head_ne]
      · exact ⟨rfl, rfl⟩

variable {m : Member}

/-- A member whose wake time has come is awake after it has been judged, and as undecided as it was. -/
theorem State.wakeIfReached_wakes (entry : s.member h = some m) (open_ : m.outcome = none) (ahead : m.reached = false) :
    (State.wakeIfReached h s).undecided h = true ∧ (m.wakeTime ≤ s.now → (State.wakeIfReached h s).Awake h) := by
  have undecided : s.undecided h = true := (State.undecided_iff _ _).mpr ⟨m, entry, open_⟩
  obtain ⟨f, frame, member⟩ := Option.bind_eq_some_iff.mp ((s.member_eq h).symm.trans entry)
  unfold State.wakeIfReached
  rw [frame]
  simp only [member, ahead, true_and, open_, Option.isNone_none, if_true]
  split
  next reached =>
    refine ⟨(State.undecided_iff _ _).mpr ⟨{ m with reached := true }, by simp [entry], open_⟩, fun _ => ?_⟩
    exact (s.wake_awake f h).of_heads (by simp)
  next later => exact ⟨undecided, fun reached => absurd reached later⟩

/-- The same after every wake time has been judged. -/
theorem State.wakeReached_wakes (entry : s.member h = some m) (open_ : m.outcome = none) (ahead : m.reached = false) :
    s.wakeReached.undecided h = true ∧ (m.wakeTime ≤ s.now → s.wakeReached.Awake h) := by
  refine forHeads_at h (before := fun t => t.member h = some m ∧ t.time = s.time)
    (after := fun t => t.undecided h = true ∧ (m.wakeTime ≤ s.now → t.Awake h)) ⟨entry, rfl⟩ ?_ ?_ ?_
  · rintro g t other ⟨member, time⟩
    exact ⟨(t.wakeIfReached_ne other.symm).1.trans member, by simp [time]⟩
  · rintro t ⟨member, time⟩
    have now : t.now = s.now := by rw [State.now, State.now, time]
    rw [← now]
    exact State.wakeIfReached_wakes member open_ ahead
  · rintro g t other ⟨undecided, awake⟩
    obtain ⟨member, head⟩ := t.wakeIfReached_ne other.symm
    refine ⟨(State.undecided_congr h member).trans undecided, fun reached => ?_⟩
    rw [State.Awake, head]; exact awake reached

end

theorem State.membersOf_get (s : State) (due : Int) {g : HeadSet} {h : Head} (member : g.get h = true) :
    (s.membersOf due g).get h = some (newMember due (s.headSettings h).lead) := by
  cases h <;> exact if_pos member

/-- A frame that has just opened, D and its wake times reached or not, is not finished. -/
theorem State.openFrame_unfinished (s : State) (due : Int) {g : HeadSet} (forced : Bool) (group : emptyGroup g = false) :
    (s.openFrame due g forced).frameFinished = false := by
  obtain ⟨h, member⟩ : ∃ h : Head, g.get h = true := by
    by_contra none
    exact Bool.false_ne_true (group.symm.trans ((emptyGroup_iff g).mpr fun h => by simpa using not_exists.mp none h))
  have frame : (forHeads (State.dropStandby g) (s.createFrame due g forced)).askReading.frame =
      some (({ s with journal := s.journal.restart } : State).newFrame due g forced) := by
    simp [forHeads]; rfl
  rw [State.openFrame]
  generalize (forHeads (State.dropStandby g) (s.createFrame due g forced)).askReading = u at frame
  have entry : u.member h = some (newMember due (s.headSettings h).lead) := by
    rw [State.member_some h frame]; exact State.membersOf_get _ due member
  obtain ⟨undecided, awake⟩ := State.wakeReached_wakes entry rfl rfl
  obtain ⟨f, woken, later, -⟩ := u.wakeReached_later _ frame
  by_cases ahead : u.now < due
  · rw [State.reachD_of_quiet woken (.inl (by rw [later]; simpa [State.now, State.newFrame] using ahead))]
    exact State.unfinished_of_undecided undecided
  · refine State.unfinished_of_awake (h := h) ?_ (State.reachD_awake (awake ?_))
    · obtain ⟨k, reached, -, members⟩ := u.wakeReached.reachD_later _ woken
      obtain ⟨m, own, _⟩ := (State.undecided_iff _ _).mp undecided
      rw [State.member_some h reached, members, ← State.member_some h woken, own]; rfl
    · simp only [newMember]; omega

/-! ### Where a tier change ends with no frame in flight -/

section

variable {s t : State}

theorem State.tryOpen_unfinished (idle : s.frame = none) : s.tryOpen.frame = none ∨ s.tryOpen.frameFinished = false := by
  unfold State.tryOpen State.openScheduled
  split
  · split
    · split
      · left; simpa using idle
      · right; exact State.openFrame_unfinished _ _ _ (by simpa using ‹¬ emptyGroup _ = true›)
    · exact .inl idle
  · exact .inl idle

theorem State.closeIfFinished_of_rest (rest : s.frame = none ∨ s.frameFinished = false) : s.closeIfFinished = s :=
  rest.elim State.closeIfFinished_of_none State.closeIfFinished_of_open

theorem State.reschedule_rest (idle : s.frame = none) : s.reschedule.frame = none ∨ s.reschedule.frameFinished = false := by
  rw [State.reschedule_of_none idle]
  exact State.tryOpen_unfinished (by simp [idle])

theorem State.haltHead_frame (h : Head) (s : State) : (State.haltHead h s).frame = (s.decideEntry h .powerCut).frame := by
  simp only [State.haltHead]; split <;> simp

theorem State.haltHead_stationPort {p : Port} (station : permitted .station p = true) (h : Head) (s : State) :
    (State.haltHead h s).ports.get p = s.ports.get p := by
  rw [State.haltHead, State.railOff_stationPort station]
  split <;> simp

theorem State.haltEntry_frame (idle : s.frame = none) : s.haltEntry.frame = none := by
  simp [State.haltEntry, forHeads, State.haltHead_frame, State.decideEntry_frame, idle]

theorem State.finish_of_none (idle : t.frame = none) (b : Tier) : t.finish b = t.followTier b := by
  refine State.closeIfFinished_of_rest ?_
  unfold State.followTier
  split
  · exact .inl idle
  · split
    · exact .inl (State.haltEntry_frame idle)
    · exact State.reschedule_rest idle

theorem State.finish_of_changed {b : Tier} (idle : t.frame = none) (differs : t.energy.effective ≠ b)
    (short : t.energy.effective ≠ .halt) : t.finish b = t.reschedule := by
  rw [State.finish_of_none idle, State.followTier, if_neg differs, if_neg short]

/-- With no frame in flight an event ends as it is, or with the due time computed. -/
theorem State.finish_settles (idle : t.frame = none) : s.SettlesTo t (t.finish s.energy.effective) := by
  refine ⟨fun same => State.finish_same same (.inl idle), fun differs short ahead => ?_⟩
  rw [State.finish_of_changed idle differs short, State.reschedule_of_none idle]
  exact State.tryOpen_of_ahead ahead

theorem State.haltEntry_stationPort {p : Port} (station : permitted .station p = true) :
    s.haltEntry.ports.get p = s.ports.get p := by
  simp [State.haltEntry, forHeads, State.haltHead_stationPort station]

theorem State.finish_stationPort {p : Port} (idle : t.frame = none) (station : permitted .station p = true) (b : Tier) :
    (t.finish b).ports.get p = t.ports.get p := by
  rw [State.finish_of_none idle, State.followTier]
  split
  · rfl
  · split
    · exact State.haltEntry_stationPort station
    · exact State.reschedule_stationPort station

end

end Sys2Proof.Machine

/-! ## Writes of settings -/

namespace Sys2Proof.Machine

/-! ### What a write hands back -/

theorem State.rxToHunt_of_hunting {s t : State} {p : Port} (port : t.ports.get p = (s.rxToHunt p).ports.get p) :
    t.rxToHunt p = t := by
  have hunting : { t.ports.get p with rx := .hunt, interByte := none } = t.ports.get p := by
    rw [port, State.rxToHunt_port, if_pos rfl, if_pos rfl]
  rw [State.rxToHunt_eq, State.modPort, hunting, Six.set_get]

section

variable {s u t : State} {p : Port} {tag item index : Byte} {value : BitVec 32} {x : Setting} {v : Int} {st : Status}

theorem exec_configRead_unnamed (accepted : s.Accepts .configRead p) (unnamed : settingOf item.toNat index.toNat = none) :
    exec (.configRead p tag item index) s = .next (s.answer p .configRead tag .badIndex []) :=
  State.exec_plain accepted (by rw [State.takeConfigRead, unnamed]; rfl) rfl

theorem exec_configRead_named (accepted : s.Accepts .configRead p) (named : settingOf item.toNat index.toNat = some x) :
    exec (.configRead p tag item index) s =
      .next (s.answer p .configRead tag .ok ([item, index] ++ leBytes 4 (s.settings.value x))) :=
  State.exec_plain accepted (by rw [State.takeConfigRead, named]; rfl) rfl

theorem exec_configWrite_unnamed (accepted : s.Accepts .configWrite p) (unnamed : settingOf item.toNat index.toNat = none) :
    exec (.configWrite p tag item index value) s = .next (s.answer p .configWrite tag .badIndex []) :=
  State.exec_plain accepted (by rw [State.takeConfigWrite, unnamed]; rfl) rfl

variable (named : settingOf item.toNat index.toNat = some x)
  (settled : x.rule.settle value = (v, st)) (stored : u = { s with settings := s.settings.store v x })

include named settled stored

theorem takeConfigWrite_named : (s.rxToHunt p).takeConfigWrite item index value =
    ((u.rxToHunt p).writeEffect x,
      { status := st
        fields := [item, index] ++ leBytes 4 (s.settings.value x) ++ leBytes 4 v
        effect := waitingEffect u.settings x }) := by
  subst stored
  rw [State.takeConfigWrite, named]
  simp only [State.writeSetting, settled]
  rfl

variable (accepted : s.Accepts .configWrite p)

include accepted

/-- A write whose effect at the write is known, with no effect that waits for its reply. -/
theorem exec_configWrite (plain : waitingEffect u.settings x = none)
    (effect : (u.rxToHunt p).writeEffect x = t.rxToHunt p) (place : t.hasPlace p = true) :
    exec (.configWrite p tag item index value) s = .next (t.answer p .configWrite tag st
      ([item, index] ++ leBytes 4 (s.settings.value x) ++ leBytes 4 v)) := by
  refine congrArg (fun t : State => (.next t : StepOutcome)) (State.request_reply accepted ?_ place)
  rw [takeConfigWrite_named named settled stored, effect, plain]
  rfl

/-- The same where the effect leaves the requesting port. -/
theorem exec_configWrite_portKept (plain : waitingEffect u.settings x = none) (effect : (u.rxToHunt p).writeEffect x = t)
    (port : t.ports.get p = (u.rxToHunt p).ports.get p) :
    exec (.configWrite p tag item index value) s = .next (t.answer p .configWrite tag st
      ([item, index] ++ leBytes 4 (s.settings.value x) ++ leBytes 4 v)) := by
  refine exec_configWrite named settled stored accepted plain (effect.trans (State.rxToHunt_of_hunting port).symm) ?_
  rw [State.hasPlace_congr port, State.rxToHunt_hasPlace, stored]
  exact accepted.place

theorem exec_configWrite_lineSpeed {q : Port} (speed : x = .lineSpeed q) :
    exec (.configWrite p tag item index value) s = .next (u.placed p
      ⟨[0xB4#8, tag, st.code] ++ ([item, index] ++ leBytes 4 (s.settings.value x) ++ leBytes 4 v),
        some (.lineSpeed q (u.settings.port.get q).lineSpeed)⟩) := by
  have place : u.hasPlace p = true := by subst stored; exact accepted.place
  have taken := takeConfigWrite_named named settled stored (p := p)
  subst speed
  exact congrArg (fun t : State => (.next t : StepOutcome))
    (State.request_answered (tag := tag) (take := fun t => t.takeConfigWrite item index value) accepted taken place)

end

theorem ValueRule.settle_natural {lo hi : Nat} {value : BitVec 32} {v : Int} {st : Status}
    (settled : ValueRule.settle value (.unsigned lo hi) = (v, st)) : ∃ n : Nat, v = n :=
  ⟨_, (congrArg Prod.fst settled).symm⟩

theorem State.writeEffect_of_quiet (s : State) {x : Setting} (quiet : x.Quiet) : s.writeEffect x = s := by
  cases x <;> first | rfl | exact quiet.elim

theorem waitingEffect_of_ne (st : Settings) {x : Setting} (other : ∀ q : Port, x ≠ .lineSpeed q) :
    waitingEffect st x = none := by
  cases x <;> first | rfl | exact absurd rfl (other _)

/-! ### What each effect at a write leaves -/

section

variable {s : State}

theorem State.clampCorrections_get (s : State) (h : Head) : s.clampCorrections.ramps.get h = { s.ramps.get h with
    correction := max (-(s.settings.correctionLimit : Int)) (min (s.ramps.get h).correction s.settings.correctionLimit) } := by
  rw [State.clampCorrections_ramps, clampInt_eq _ (by omega)]

theorem State.judgeThreshold_raising {p : Port} (clear : (s.ports.get p).thresholdRaised = false)
    (reached : (s.settings.port.get p).errorThreshold ≤ (s.ports.get p).errors.total) : s.judgeThreshold p =
      (s.modPort p (fun x => { x with thresholdRaised := true })).raiseBoth .lineErrors := if_pos ⟨clear, reached⟩

theorem State.judgeThreshold_quiet {p : Port} (quiet : (s.ports.get p).thresholdRaised = true
    ∨ (s.ports.get p).errors.total < (s.settings.port.get p).errorThreshold) : s.judgeThreshold p = s := by
  refine if_neg ?_
  rintro ⟨clear, reached⟩
  rcases quiet with raised | low
  · exact Bool.false_ne_true (clear.symm.trans raised)
  · exact absurd reached (Nat.not_le_of_lt low)

/-- The budget floor and the tier that follows from it, with TIER_CHANGED where the tier differs. -/
def State.withFloor (s : State) (floor : BudgetFloor) (tier : Tier) : State :=
  { s with
    energy := { s.energy with floor := floor, effective := tier }
    stations := if tier = s.energy.effective then s.stations
      else ⟨{ s.stations.ul with flags := s.stations.ul.flags ||| 16#10 },
        { s.stations.sv with flags := s.stations.sv.flags ||| 16#10 }⟩ }

theorem State.judgeFloor_judgeTier_eq {floor : BudgetFloor} {tier : Tier}
    (floor_eq : floor = floorOf s.settings.allowance s.energy.spend)
    (tier_eq : tier = worse s.energy.voltageTier floor.tier) : s.judgeFloor.judgeTier = s.withFloor floor tier := by
  subst floor_eq tier_eq
  unfold State.judgeTier State.withFloor
  by_cases same : worse s.energy.voltageTier (floorOf s.settings.allowance s.energy.spend).tier = s.energy.effective
  · simp only [State.judgeFloor, same, if_true]
  · simp only [State.judgeFloor, same, if_false]; rfl

theorem State.computeDue_rxToHunt (s : State) (p : Port) : (s.rxToHunt p).computeDue = s.computeDue.rxToHunt p := by
  have schedule : (s.rxToHunt p).noSchedule = s.noSchedule := rfl
  unfold State.computeDue
  rw [schedule]
  split
  · rfl
  · simp only [State.rxToHunt_keeps]
    cases s.sched.anchor <;> rfl

theorem State.reschedule_rxToHunt {p : Port} (idle : s.frame = none) (ahead : s.computeDue.openReached = false) :
    (s.rxToHunt p).reschedule = s.computeDue.rxToHunt p := by
  rw [State.reschedule_of_none (by simpa using idle), State.computeDue_rxToHunt]
  exact State.tryOpen_of_ahead ahead

theorem State.frameFinished_rxToHunt (s : State) (p : Port) : (s.rxToHunt p).frameFinished = s.frameFinished := rfl

theorem Trigger.followPolarity_code {n : Nat} (code : n ≤ 1) (t : Trigger) : t.followPolarity (polarityOfCode n) =
    if t.asserted = true then t else { t with level := decide ((n : Int) = 1) } := by
  rw [Trigger.followPolarity]
  interval_cases n <;> rfl

theorem State.modPort_rxToHunt (s : State) (p q : Port) {f : PortState → PortState}
    (apart : ∀ x, { f x with rx := .hunt, interByte := none } = f { x with rx := .hunt, interByte := none }) :
    (s.rxToHunt p).modPort q f = (s.modPort q f).rxToHunt p := s.modPort_comm p q apart

theorem State.modPort_hasPlace (s : State) {f : PortState → PortState} {q : Port} (p : Port)
    (queue : ∀ x, (f x).queue = x.queue) : (s.modPort q f).hasPlace p = s.hasPlace p := by
  simp only [State.hasPlace, State.modPort_ports, Six.get_set]
  split
  next same => rw [queue, same]
  next => rfl

/-! ### A miss limit that is judged at its write -/

variable {h : Head}

theorem State.judgeMisses_quiet (quiet : (s.heads.get h).exclusion.isSome = true
    ∨ (s.heads.get h).miss < (s.headSettings h).missLimit) : s.judgeMisses h = s := by
  refine if_neg ?_
  rintro ⟨admitted, reached⟩
  rcases quiet with excluded | low
  · rw [Option.isNone_iff_eq_none.mp admitted] at excluded; cases excluded
  · exact absurd reached (Nat.not_le_of_lt low)

theorem State.judgeMisses_excluding (admitted : (s.heads.get h).exclusion = none)
    (reached : (s.headSettings h).missLimit ≤ (s.heads.get h).miss) : s.judgeMisses h =
      if (s.heads.get h).state = .standby then (s.exclude h .misses).railOff h else s.exclude h .misses :=
  if_pos ⟨Option.isNone_iff_eq_none.mpr admitted, reached⟩

theorem State.exclude_of_admitted {r : ExclusionReason} (admitted : (s.heads.get h).exclusion = none) :
    s.exclude h r = (s.modHead h (fun x => { x with exclusion := some r })).raiseBoth .headExcluded :=
  if_neg (by simp [admitted])

/-- A rail that goes off has its on-time accounted and its accumulator at 0. -/
theorem State.railOff_onTime (on : s.rail h = true) : ((s.railOff h).energy.onTime.get h).ms = 0 := by
  rw [State.railOff_energy on, State.account, State.judgeTier_energy]
  simp [State.judgeFloor, State.addCharge, State.modOnTime]

/-- A rail off judges the effective tier, which HALT enters only through the voltage. -/
theorem State.railOff_effective (on : s.rail h = true) : (s.railOff h).energy.effective =
    worse s.energy.voltageTier (s.railOff h).energy.floor.tier := by
  rw [State.railOff_energy on, State.account, State.judgeTier_energy]
  simp [State.judgeFloor, State.addCharge, State.modOnTime]

theorem State.railOff_ne_halt (on : s.rail h = true) (voltage : s.energy.voltageTier ≠ .halt) :
    (s.railOff h).energy.effective ≠ .halt := by
  rw [State.railOff_effective on]
  exact worse_ne_halt voltage

/-- What a rail off may touch. -/
theorem State.railOff_rest (s : State) (h : Head) : s.railOff h = { s with
    heads := (s.railOff h).heads, triggers := (s.railOff h).triggers, ports := (s.railOff h).ports
    energy := (s.railOff h).energy, stations := (s.railOff h).stations, flags := (s.railOff h).flags } := by
  have keeps := s.railOff_keeps h
  generalize s.railOff h = t at keeps
  cases t
  simp_all

theorem State.exclude_rest (s : State) (h : Head) (r : ExclusionReason) : s.exclude h r =
    { s with heads := (s.exclude h r).heads, stations := (s.exclude h r).stations } := by
  have keeps := s.exclude_keeps h r
  generalize s.exclude h r = t at keeps
  cases t
  simp_all

/-- Where a change of the tier rests, the end of an event touches the schedule alone. -/
theorem State.finish_rests {t : State} (rests : s.TierChangeRests) (frame : t.frame = s.frame)
    (run : t.sched.run = s.sched.run) (short : t.energy.effective ≠ .halt)
    (stays : s.frameFinished = false → t.frameFinished = false) (b : Tier) :
    ∃ c : Scheduler, t.finish b = { t with sched := c } := by
  obtain ⟨-, ⟨idle, held⟩ | ⟨flight, unfinished⟩⟩ := rests
  · by_cases same : t.energy.effective = b
    · exact ⟨t.sched, State.finish_same same (.inl (frame.trans idle))⟩
    · rw [State.finish_of_changed (frame.trans idle) same short, State.reschedule_of_held (frame.trans idle) (run.trans held)]
      exact ⟨_, rfl⟩
  · exact ⟨t.sched, State.finish_open short (by rwa [frame]) (stays unfinished)⟩

/-- A head that goes from STANDBY to OFF leaves an open frame open. -/
theorem State.frameFinished_dropped {t : State} (member : ∀ k : Head, t.member k = s.member k)
    (other : ∀ k : Head, k ≠ h → (t.heads.get k).state = (s.heads.get k).state)
    (standby : (s.heads.get h).state = .standby) (off : (t.heads.get h).state = .off) : t.frameFinished = s.frameFinished := by
  have finished (k : Head) : t.memberFinished k = s.memberFinished k := by
    by_cases same : k = h
    · subst same; simp [State.memberFinished, member, off, standby]
    · exact State.memberFinished_congr (member k) (other k same)
  simp only [State.frameFinished, finished]

/-! ### A head in STANDBY that its misses exclude -/

/-- A head in STANDBY excluded for its misses: EXCLUDED and then OFF. -/
def State.excludedOff (s : State) (h : Head) : State := (s.exclude h .misses).railOff h

section

variable (admitted : (s.heads.get h).exclusion = none)

include admitted

theorem State.excludedOff_head : ((s.excludedOff h).heads.get h).state = .off
    ∧ ((s.excludedOff h).heads.get h).exclusion = some .misses := by
  simp [State.excludedOff, State.exclude_heads, HeadSeq.enter, admitted]

theorem State.excludedOff_raised (st : Station) :
    hasEvent ((s.excludedOff h).stations.get st).flags .headExcluded = true :=
  State.railOff_events _ h st _ (State.exclude_raised admitted st)

end

theorem State.excludedOff_trigger : ((s.excludedOff h).triggers.get h).Quiet := by
  simp [State.excludedOff, Trigger.Quiet]

theorem State.excludedOff_ne {k : Head} (other : k ≠ h) :
    (s.excludedOff h).heads.get k = s.heads.get k ∧ (s.excludedOff h).triggers.get k = s.triggers.get k := by
  simp [State.excludedOff, State.exclude_heads, other]

theorem State.excludedOff_rest (s : State) (h : Head) : s.excludedOff h = { s with
    heads := (s.excludedOff h).heads, triggers := (s.excludedOff h).triggers, ports := (s.excludedOff h).ports
    energy := (s.excludedOff h).energy, stations := (s.excludedOff h).stations, flags := (s.excludedOff h).flags } := by
  rw [State.excludedOff, State.railOff_rest, State.exclude_rest]

section

variable (standby : (s.heads.get h).state = .standby)

include standby

theorem State.exclude_rail (r : ExclusionReason) : (s.exclude h r).rail h = true := by
  simp [State.rail, State.exclude_heads, standby]

theorem State.excludedOff_onTime : ((s.excludedOff h).energy.onTime.get h).ms = 0 :=
  State.railOff_onTime (State.exclude_rail standby _)

theorem State.excludedOff_ne_halt (voltage : s.energy.voltageTier ≠ .halt) : (s.excludedOff h).energy.effective ≠ .halt :=
  State.railOff_ne_halt (State.exclude_rail standby _) (by simpa using voltage)

theorem State.excludedOff_finished : (s.excludedOff h).frameFinished = s.frameFinished :=
  State.frameFinished_dropped (h := h) (fun k => State.member_congr k (by simp [State.excludedOff]))
    (fun k other => by rw [(State.excludedOff_ne other).1]) standby (by simp [State.excludedOff, HeadSeq.enter])

end

end

end Sys2Proof.Machine

namespace Sys2Proof.Proofs

open Sys2Proof.Machine

/-- Settles O21, by the effect of each setting at its write. -/
theorem configWriteStores : Obligations.ConfigWriteStores := by
  unfold Obligations.ConfigWriteStores
  rintro s u p tag item index value x v st fields accepted
  refine ⟨fun unnamed => ⟨exec_configWrite_unnamed accepted unnamed, exec_configRead_unnamed accepted unnamed⟩, ?_⟩
  rintro named settled stored rfl
  have run {t : State} (other : ∀ q : Port, x ≠ .lineSpeed q) (effect : (u.rxToHunt p).writeEffect x = t.rxToHunt p)
      (place : t.hasPlace p = true) :=
    exec_configWrite (tag := tag) (value := value) named settled stored accepted (waitingEffect_of_ne _ other) effect place
  have place : u.hasPlace p = true := by subst stored; exact accepted.place
  refine ⟨fun quiet => ?_, fun q speed => exec_configWrite_lineSpeed named settled stored accepted speed, ?_, ?_, ?_, ?_, ?_,
    ?_, ?_, ?_, exec_configRead_named accepted named⟩
  · exact run (by rintro q rfl; exact quiet) (State.writeEffect_of_quiet _ quiet) place
  · rintro rfl
    refine ⟨u.clampCorrections, run nofun rfl (by exact place), rfl, fun h => ?_⟩
    obtain ⟨n, rfl⟩ := ValueRule.settle_natural settled
    rw [State.clampCorrections_get, stored]; rfl
  · rintro rfl
    subst stored
    exact run nofun rfl place
  · rintro h rfl
    obtain ⟨n, code, written⟩ := ValueRule.settle_coded_le 1 value (Nat.zero_le 1)
    obtain rfl : (n : Int) = v := written.symm.trans (congrArg Prod.fst settled)
    have polarity : (u.headSettings h).polarity = polarityOfCode n := by
      subst stored; simp [State.headSettings, Settings.store, Settings.modHead]
    have effect : (u.rxToHunt p).writeEffect (.polarity h) =
        (u.modTrigger h (Trigger.followPolarity (u.headSettings h).polarity)).rxToHunt p := rfl
    rw [polarity, State.modTrigger, Trigger.followPolarity_code code] at effect
    subst stored
    exact run nofun effect place
  · rintro q rfl
    obtain ⟨n, rfl⟩ := ValueRule.settle_natural settled
    have threshold : ((u.rxToHunt p).settings.port.get q).errorThreshold = n := by
      subst stored; simp [Settings.store, Settings.modPort]
    have port : ((u.rxToHunt p).ports.get q).thresholdRaised = (s.ports.get q).thresholdRaised
        ∧ ((u.rxToHunt p).ports.get q).errors = (s.ports.get q).errors := by
      subst stored; simp [State.rxToHunt_port]
    obtain ⟨marker, errors⟩ := port
    refine ⟨fun clear reached => ?_, fun quiet => ?_⟩
    · have effect : (u.rxToHunt p).writeEffect (.errorThreshold q) =
          ((u.modPort q (fun x => { x with thresholdRaised := true })).raiseBoth .lineErrors).rxToHunt p := by
        rw [State.writeEffect, State.judgeThreshold_raising (marker.trans clear) (by rw [threshold, errors]; omega),
          State.modPort_rxToHunt _ _ _ fun _ => rfl]
        rfl
      subst stored
      exact run nofun effect ((State.modPort_hasPlace _ (f := fun x => { x with thresholdRaised := true }) p fun _ => rfl).trans place)
    · refine run nofun (State.judgeThreshold_quiet ?_) place
      rw [threshold, marker, errors]
      exact quiet.imp_right fun low => by omega
  · rintro rfl
    obtain ⟨n, rfl⟩ := ValueRule.settle_natural settled
    have level : (u.rxToHunt p).settings.fillLevel = n := by subst stored; rfl
    have journal : (u.rxToHunt p).journal = s.journal := by subst stored; rfl
    refine ⟨fun reached clear => ?_, fun reached raised => ?_, fun low => ?_⟩
    · have effect : (u.rxToHunt p).writeEffect .fillLevel =
          (({ u with journal := { s.journal with fillRaised := true } } : State).raiseBoth .journalFill).rxToHunt p := by
        rw [State.writeEffect, State.judgeFill_raising (by rw [level, journal]; omega) (by rw [journal]; exact clear),
          level, journal, Journal.fillJudged, decide_eq_true (by omega)]
        rfl
      subst stored
      exact run nofun effect place
    · have effect : (u.rxToHunt p).writeEffect .fillLevel = u.rxToHunt p := by
        rw [State.writeEffect, State.judgeFill, journal, level, if_pos (by omega), if_pos raised]
      exact run nofun effect place
    · have effect : (u.rxToHunt p).writeEffect .fillLevel =
          ({ u with journal := { s.journal with fillRaised := false } } : State).rxToHunt p := by
        rw [State.writeEffect, State.judgeFill_eq, journal, level, if_neg (by omega), Journal.fillJudged,
          decide_eq_false (by omega)]
        rfl
      subst stored
      exact run nofun effect place
  · rintro floor tier y rfl floor_eq tier_eq y_eq
    obtain ⟨n, rfl⟩ := ValueRule.settle_natural settled
    have judged : (u.rxToHunt p).judgeFloor.judgeTier = (u.withFloor floor tier).rxToHunt p := by
      subst stored
      refine State.judgeFloor_judgeTier_eq (floor_eq.trans ?_) tier_eq
      simp only [floorOf, Nat.cast_pos, Nat.cast_le]
      rfl
    obtain rfl : u.withFloor floor tier = y := by rw [y_eq, stored]; rfl
    have effective : (u.rxToHunt p).energy.effective = s.energy.effective := by rw [stored]; rfl
    have frame : ((u.withFloor floor tier).rxToHunt p).frame = s.frame := by rw [stored]; rfl
    have finished : ((u.withFloor floor tier).rxToHunt p).frameFinished = s.frameFinished := by rw [stored]; rfl
    have ends {t : State} (ends : ((u.withFloor floor tier).rxToHunt p).finish s.energy.effective = t.rxToHunt p) :
        (u.rxToHunt p).writeEffect .allowance = t.rxToHunt p := by
      rw [State.writeEffect, judged, effective]; exact ends
    refine ⟨fun same open_ => ?_, fun differs short flight open_ => ?_, fun differs short idle ahead => ?_⟩
    · exact run nofun (ends (State.finish_same same (by rwa [frame, finished]))) place
    · exact run nofun (ends (State.finish_open short (by rwa [frame]) (finished.trans open_))) place
    · refine run nofun (ends ?_) ((State.hasPlace_congr (by simp [State.withFloor])).trans place)
      rw [State.finish_of_changed (frame.trans idle) differs short, State.reschedule_rxToHunt (s := u.withFloor floor tier) (frame.trans idle) ahead]
  · rintro h rfl open_
    obtain ⟨n, rfl⟩ := ValueRule.settle_natural settled
    have limit : ((u.rxToHunt p).headSettings h).missLimit = n := by
      subst stored; simp [State.headSettings, Settings.store, Settings.modHead]
    obtain ⟨heads, frame, effective, same_finished⟩ : (u.rxToHunt p).heads = s.heads ∧ (u.rxToHunt p).frame = s.frame
        ∧ (u.rxToHunt p).energy.effective = s.energy.effective ∧ (u.rxToHunt p).frameFinished = s.frameFinished := by
      subst stored; exact ⟨rfl, rfl, rfl, rfl⟩
    have station : permitted .station p = true := accepted.allowed
    have drops (admitted : (s.heads.get h).exclusion = none) (reached : (n : Int) ≤ (s.heads.get h).miss)
        (standby : (s.heads.get h).state = .standby) : ((u.rxToHunt p).heads.get h).state = .standby
          ∧ (u.rxToHunt p).writeEffect (.missLimit h) = ((u.rxToHunt p).excludedOff h).finish s.energy.effective := by
      refine ⟨by rwa [heads], ?_⟩
      rw [State.writeEffect, State.judgeMisses_excluding (by rwa [heads]) (by rw [limit, heads]; omega),
        if_pos (by rwa [heads]), effective, State.excludedOff]
    refine ⟨fun admitted reached awake => ?_, fun admitted reached standby rests => ?_,
      fun admitted reached standby idle => ?_, fun quiet => ?_⟩
    · have effect : (u.rxToHunt p).writeEffect (.missLimit h) = (({ u with
          heads := u.heads.set h { u.heads.get h with exclusion := some .misses } } : State).raiseBoth
            .headExcluded).rxToHunt p := by
        rw [State.writeEffect, State.judgeMisses_excluding (by rwa [heads]) (by rw [limit, heads]; omega),
          if_neg (by rwa [heads]), State.exclude_of_admitted (by rwa [heads])]
        refine State.finish_same rfl (open_.imp (fun idle => by simpa using frame.trans idle) fun unfinished => ?_)
        refine State.frameFinished_kept (same_finished.trans unfinished) (by simp) fun k => .inl ?_
        by_cases own : k = h
        · subst own; simp
        · simp [own]
      subst stored
      exact run nofun effect place
    · obtain ⟨out, finish⟩ := drops admitted reached standby
      have frame' : ((u.rxToHunt p).excludedOff h).frame = s.frame := by rw [← frame]; simp [State.excludedOff]
      obtain ⟨c, ends⟩ := State.finish_rests (t := (u.rxToHunt p).excludedOff h) rests frame'
        (by rw [stored]; simp [State.excludedOff]) (State.excludedOff_ne_halt out (by rw [stored]; exact rests.1))
        (fun unfinished => (State.excludedOff_finished out).trans (same_finished.trans unfinished)) s.energy.effective
      obtain ⟨off, excluded⟩ := State.excludedOff_head (s := u.rxToHunt p) (h := h) (by rwa [heads])
      refine ⟨_, exec_configWrite_portKept named settled stored accepted rfl (finish.trans ends)
        (State.railOff_stationPort station |>.trans (by simp)), ?_, off, excluded,
        State.excludedOff_raised (by rwa [heads])⟩
      simp [State.excludedOff]
    · obtain ⟨out, finish⟩ := drops admitted reached standby
      have idle' : ((u.rxToHunt p).excludedOff h).frame = none := by rw [← idle, ← frame]; simp [State.excludedOff]
      obtain ⟨off, excluded⟩ := State.excludedOff_head (s := u.rxToHunt p) (h := h) (by rwa [heads])
      refine ⟨(u.rxToHunt p).excludedOff h, _, exec_configWrite_portKept named settled stored accepted rfl finish ?_,
        State.finish_settles idle', ?_, off, excluded, State.excludedOff_trigger, State.excludedOff_onTime out,
        fun g other => ?_, State.excludedOff_raised (by rwa [heads])⟩
      · rw [State.finish_stationPort idle' station]
        exact State.railOff_stationPort station |>.trans (by simp)
      · conv_lhs => rw [State.excludedOff_rest]
        rfl
      · obtain ⟨head, trigger⟩ := State.excludedOff_ne (s := u.rxToHunt p) other
        exact ⟨head.trans (by rw [heads]), trigger.trans (by rw [stored]; rfl)⟩
    · refine run nofun ?_ place
      rw [State.writeEffect, State.judgeMisses_quiet (by rw [limit, heads]; exact quiet.imp_right fun low => by omega)]
      exact State.finish_same rfl (by rwa [frame, same_finished])
  · rintro h lead
    have other (q : Port) : x ≠ .lineSpeed q := by rcases lead with rfl | rfl <;> exact nofun
    have effect : (u.rxToHunt p).writeEffect x = (u.rxToHunt p).reschedule := by rcases lead with rfl | rfl <;> rfl
    have frame : (u.rxToHunt p).frame = s.frame := by rw [stored]; rfl
    refine ⟨fun flight => ?_, fun idle ahead => ?_⟩
    · exact run other (effect.trans (State.reschedule_of_frame (by rwa [frame]))) place
    · exact run other (effect.trans (State.reschedule_rxToHunt (frame.trans idle) ahead))
        ((State.hasPlace_congr (by simp)).trans place)

end Sys2Proof.Proofs

/-! ## Rails that go off, and the events that close a frame -/

namespace Sys2Proof.Machine

/-! ### What a rail off leaves of its head -/

section

variable {s : State} {h : Head}

theorem releaseFlags_get (p : Port) (v : Eight (Option Port)) (i : Idx) :
    (releaseFlags p v).get i = if v.get i = some p then none else v.get i := by
  cases i <;> rfl

theorem State.resetPort_ports (s : State) (p : Port) :
    (s.resetPort p).ports = s.ports.set p (resetPortState (s.ports.get p)) := by
  simp [State.resetPort]

theorem State.resetPort_flags (s : State) (p : Port) (i : Idx) :
    (s.resetPort p).flags.get i = if s.flags.get i = some p then none else s.flags.get i := by
  simp [State.resetPort, releaseFlags_get]

theorem State.railOff_flags (s : State) (h : Head) (i : Idx) :
    (s.railOff h).flags.get i = if s.flags.get i = some (headPort h) then none else s.flags.get i := by
  rw [State.railOff]
  simp [State.resetPort_flags]

theorem State.railOff_head (s : State) (h : Head) :
    (s.railOff h).heads.get h = { (s.heads.get h).enter .off with keepOff := false } := by simp

theorem State.railOff_state (s : State) (h : Head) : ((s.railOff h).heads.get h).state = .off := by simp [HeadSeq.enter]

theorem State.railOff_quiet (s : State) (h : Head) : ((s.railOff h).triggers.get h).Quiet := by simp [Trigger.Quiet]

theorem State.railOff_ne {k : Head} (other : k ≠ h) :
    (s.railOff h).heads.get k = s.heads.get k ∧ (s.railOff h).triggers.get k = s.triggers.get k
      ∧ (s.railOff h).ports.get (headPort k) = s.ports.get (headPort k) := by
  simp [State.railOff_ports, other, headPort_ne other]

theorem State.railOff_queue (s : State) (h : Head) : ((s.railOff h).ports.get (headPort h)).queue = [] := by
  simp [State.railOff_ports, resetPortState]

theorem State.railOff_energy_of_off (off : (s.heads.get h).state = .off) : (s.railOff h).energy = s.energy := by
  simp [State.railOff, State.stopOnTime, State.rail, off]

theorem State.rail_of_ne_off (on : (s.heads.get h).state ≠ .off) : s.rail h = true := by simp [State.rail, on]

theorem State.railOff_running (on : s.rail h = true) : ((s.railOff h).energy.onTime.get h).running = false := by
  rw [State.railOff_energy on, State.account, State.judgeTier_energy]
  simp [State.judgeFloor, State.addCharge, State.modOnTime]

theorem State.railOff_spend (on : s.rail h = true) : (s.railOff h).energy.spend =
    min (s.energy.spend + (s.energy.onTime.get h).ms * (s.settings.head.get h).current / 1000) 4294967295 := by
  rw [State.railOff_energy on, State.account, State.judgeTier_energy]
  simp [State.judgeFloor, State.addCharge, State.modOnTime, saturate, Config.maxCharge, chargeOf, State.headSettings]

theorem State.railOff_floor (on : s.rail h = true) : (s.railOff h).energy.floor =
    floorOf s.settings.allowance (s.railOff h).energy.spend := by
  rw [State.railOff_energy on, State.account, State.judgeTier_energy]
  simp [State.judgeFloor, State.addCharge, State.modOnTime]

theorem State.railOff_voltage (s : State) (h : Head) : (s.railOff h).energy.voltageTier = s.energy.voltageTier := by
  cases on : s.rail h with
  | true =>
    rw [State.railOff_energy on, State.account, State.judgeTier_energy]
    simp [State.judgeFloor, State.addCharge, State.modOnTime]
  | false => rw [State.railOff_energy_of_off (by simpa [State.rail] using on)]

/-- A rail off leaves the tier, or judges one that is not HALT unless the voltage is. -/
theorem State.railOff_tier (voltage : s.energy.voltageTier ≠ .halt) :
    (s.railOff h).energy.effective = s.energy.effective ∨ (s.railOff h).energy.effective ≠ .halt := by
  cases on : s.rail h with
  | true => exact .inr (State.railOff_ne_halt on voltage)
  | false => exact .inl (by rw [State.railOff_energy_of_off (by simpa [State.rail] using on)])

end

/-! ### A head whose rail goes off out of CLOSING takes its storage mark -/

/-- The exclusion of a head after its storage mark has been applied out of CLOSING. -/
def HeadSeq.storedExclusion (x : HeadSeq) : Option ExclusionReason :=
  if x.state = .closing ∧ x.storageMark = true ∧ x.exclusion = none then some .storage else x.exclusion

/-- A storage mark applied out of CLOSING. -/
def State.storageApplied (s : State) (h : Head) : State :=
  if (s.heads.get h).state = .closing then s.applyStorageMark h else s

/-- The rail of a head with no undecided part goes off (spec/06 R118, R119). -/
def State.cutHead (s : State) (h : Head) : State := (s.storageApplied h).railOff h

section

variable {s : State} {h : Head}

theorem State.applyStorageMark_heads (s : State) (h : Head) : (s.applyStorageMark h).heads = s.heads.set h { s.heads.get h with
    storageMark := false
    exclusion := if (s.heads.get h).storageMark = true ∧ (s.heads.get h).exclusion = none then some .storage
      else (s.heads.get h).exclusion } := by
  unfold State.applyStorageMark
  cases mark : (s.heads.get h).storageMark with
  | true => cases excluded : (s.heads.get h).exclusion <;> simp [State.exclude_heads, excluded]
  | false =>
    have same : { s.heads.get h with storageMark := false } = s.heads.get h := by rw [← mark]
    simp [same]

theorem State.storageApplied_heads (s : State) (h : Head) : (s.storageApplied h).heads = s.heads.set h { s.heads.get h with
    storageMark := if (s.heads.get h).state = .closing then false else (s.heads.get h).storageMark
    exclusion := (s.heads.get h).storedExclusion } := by
  unfold State.storageApplied HeadSeq.storedExclusion
  by_cases closing : (s.heads.get h).state = .closing
  · simp [closing, State.applyStorageMark_heads]
  · simp only [closing, if_false, false_and]
    exact (Four.set_get _ _).symm

@[simp] theorem State.storageApplied_keeps (s : State) (h : Head) :
    (s.storageApplied h).supply = s.supply ∧ (s.storageApplied h).bsense = s.bsense ∧ (s.storageApplied h).time = s.time
      ∧ (s.storageApplied h).sched = s.sched ∧ (s.storageApplied h).plan = s.plan ∧ (s.storageApplied h).meter = s.meter
      ∧ (s.storageApplied h).ramps = s.ramps ∧ (s.storageApplied h).frame = s.frame
      ∧ (s.storageApplied h).armTimer = s.armTimer ∧ (s.storageApplied h).triggers = s.triggers
      ∧ (s.storageApplied h).energy = s.energy ∧ (s.storageApplied h).journal = s.journal
      ∧ (s.storageApplied h).ports = s.ports ∧ (s.storageApplied h).windows = s.windows
      ∧ (s.storageApplied h).flags = s.flags ∧ (s.storageApplied h).settings = s.settings
      ∧ (s.storageApplied h).pending = s.pending := by
  unfold State.storageApplied; split <;> simp

@[simp] theorem State.cutHead_keeps (s : State) (h : Head) :
    (s.cutHead h).supply = s.supply ∧ (s.cutHead h).bsense = s.bsense ∧ (s.cutHead h).time = s.time
      ∧ (s.cutHead h).sched = s.sched ∧ (s.cutHead h).plan = s.plan ∧ (s.cutHead h).meter = s.meter
      ∧ (s.cutHead h).ramps = s.ramps ∧ (s.cutHead h).frame = s.frame ∧ (s.cutHead h).armTimer = s.armTimer
      ∧ (s.cutHead h).journal = s.journal ∧ (s.cutHead h).windows = s.windows ∧ (s.cutHead h).settings = s.settings
      ∧ (s.cutHead h).pending = s.pending := by
  simp only [State.cutHead]; simp

theorem State.cutHead_rest (s : State) (h : Head) : s.cutHead h = { s with
    heads := (s.cutHead h).heads, triggers := (s.cutHead h).triggers, ports := (s.cutHead h).ports
    energy := (s.cutHead h).energy, stations := (s.cutHead h).stations, flags := (s.cutHead h).flags } := by
  have keeps := s.cutHead_keeps h
  generalize s.cutHead h = t at keeps
  cases t
  simp_all

theorem State.cutHead_state (s : State) (h : Head) : ((s.cutHead h).heads.get h).state = .off := State.railOff_state _ h

theorem State.cutHead_quiet (s : State) (h : Head) : ((s.cutHead h).triggers.get h).Quiet := State.railOff_quiet _ h

theorem State.cutHead_queue (s : State) (h : Head) : ((s.cutHead h).ports.get (headPort h)).queue = [] :=
  State.railOff_queue _ h

theorem State.cutHead_head (s : State) (h : Head) : ((s.cutHead h).heads.get h).miss = (s.heads.get h).miss
    ∧ ((s.cutHead h).heads.get h).exclusion = (s.heads.get h).storedExclusion := by
  simp [State.cutHead, State.storageApplied_heads, HeadSeq.enter]

theorem State.cutHead_ne {k : Head} (other : k ≠ h) :
    (s.cutHead h).heads.get k = s.heads.get k ∧ (s.cutHead h).triggers.get k = s.triggers.get k := by
  obtain ⟨head, trigger, -⟩ := State.railOff_ne (s := s.storageApplied h) other
  exact ⟨head.trans (by simp [State.storageApplied_heads, other]), trigger.trans (by simp)⟩

theorem State.cutHead_member (s : State) (h k : Head) : (s.cutHead h).member k = s.member k := State.member_congr k (by simp)

theorem State.storageApplied_rail (on : (s.heads.get h).state ≠ .off) : (s.storageApplied h).rail h = true := by
  simp [State.rail, State.storageApplied_heads, on]

section

variable (on : (s.heads.get h).state ≠ .off)

include on

theorem State.cutHead_onTime : ((s.cutHead h).energy.onTime.get h).ms = 0
    ∧ ((s.cutHead h).energy.onTime.get h).running = false :=
  ⟨State.railOff_onTime (State.storageApplied_rail on), State.railOff_running (State.storageApplied_rail on)⟩

theorem State.cutHead_spend : (s.cutHead h).energy.spend =
    min (s.energy.spend + (s.energy.onTime.get h).ms * (s.settings.head.get h).current / 1000) 4294967295 :=
  (State.railOff_spend (State.storageApplied_rail on)).trans (by simp)

theorem State.cutHead_effective : (s.cutHead h).energy.effective =
    worse s.energy.voltageTier (floorOf s.settings.allowance (s.cutHead h).energy.spend).tier := by
  have rail := State.storageApplied_rail on
  rw [State.cutHead, State.railOff_effective rail, State.railOff_floor rail]
  simp

theorem State.cutHead_ne_halt (voltage : s.energy.voltageTier ≠ .halt) : (s.cutHead h).energy.effective ≠ .halt := by
  rw [State.cutHead_effective on]; exact worse_ne_halt voltage

end

end

/-! ### How an event with a frame in flight ends -/

section

variable {s t v : State} {f : Frame} {b : Tier} {h : Head}

/-- Where the tier stays, or does not become HALT, an event with a frame in flight ends with the judgement of its close. -/
theorem State.finish_of_flight (tier : t.energy.effective = b ∨ t.energy.effective ≠ .halt) (flight : t.frame.isSome = true) :
    t.finish b = t.closeIfFinished := by
  have still : t.followTier b = t := by
    unfold State.followTier
    split
    · rfl
    · next differs => rw [if_neg (tier.resolve_left differs), State.reschedule_of_frame flight]
  rw [State.finish, still]

theorem State.finish_unfinished (tier : t.energy.effective = b ∨ t.energy.effective ≠ .halt) (flight : t.frame.isSome = true)
    (open_ : t.frameFinished = false) : t.finish b = t := by
  rw [State.finish_of_flight tier flight, State.closeIfFinished_of_open open_]

theorem State.finish_closes (tier : t.energy.effective = b ∨ t.energy.effective ≠ .halt) (frame : t.frame = some f)
    (finished : t.frameFinished = true) : t.finish b = t.closeFrame f := by
  rw [State.finish_of_flight tier (by rw [frame]; rfl), State.closeIfFinished, frame]
  exact if_pos finished

/-- Every member of a finished frame is decided. -/
theorem State.decided_of_finished (finished : s.frameFinished = true) (frame : s.frame = some f) (k : Head) (m : Member)
    (member : f.members.get k = some m) : m.outcome.isSome = true := by
  have own := State.frameFinished_iff.mp finished k
  rw [State.memberFinished, State.member_some k frame, member] at own
  simp_all

theorem State.memberFinished_of_stranger (stranger : s.member h = none) : s.memberFinished h = true := by
  simp [State.memberFinished, stranger]

theorem State.memberFinished_of_off (decided : s.undecided h = false) (off : (s.heads.get h).state = .off) :
    s.memberFinished h = true := by
  unfold State.undecided at decided
  unfold State.memberFinished
  split <;> simp_all

theorem State.flight_of_unfinished {g : Head} (open_ : s.memberFinished g = false) : s.frame.isSome = true := by
  unfold State.memberFinished State.member at open_
  cases frame : s.frame with
  | none => simp [frame] at open_
  | some f => rfl

/-- What the others decide is decided where they are as they were. -/
theorem State.ClosesWith.congr (closes : s.ClosesWith h) (own : t.memberFinished h = true)
    (member : ∀ k : Head, k ≠ h → t.member k = s.member k)
    (heads : ∀ k : Head, k ≠ h → (t.heads.get k).state = (s.heads.get k).state) : t.frameFinished = true := by
  refine State.frameFinished_iff.mpr fun k => ?_
  by_cases same : k = h
  · rw [same]; exact own
  · rw [State.memberFinished_congr (member k same) (heads k same)]; exact closes k same

theorem State.HeldOpenBeside.congr (held : s.HeldOpenBeside h)
    (member : ∀ k : Head, k ≠ h → t.member k = s.member k)
    (heads : ∀ k : Head, k ≠ h → (t.heads.get k).state = (s.heads.get k).state) : t.frameFinished = false := by
  obtain ⟨g, other, open_⟩ := held
  exact State.frameFinished_false (g := g) (by rw [State.memberFinished_congr (member g other) (heads g other)]; exact open_)

end

/-! ### The close of a frame while the part is HELD -/

section

variable {s v : State} {g : Frame}

/-- What the Energy Monitor judges at a close: members still powered, then a measurement. -/
def State.closeMeasured (s : State) : State := (forHeads State.accountMember s).measure

@[simp] theorem State.closeMeasured_keeps (s : State) :
    s.closeMeasured.supply = s.supply ∧ s.closeMeasured.time = s.time ∧ s.closeMeasured.sched = s.sched
      ∧ s.closeMeasured.plan = s.plan ∧ s.closeMeasured.meter = s.meter ∧ s.closeMeasured.ramps = s.ramps
      ∧ s.closeMeasured.frame = s.frame ∧ s.closeMeasured.armTimer = s.armTimer ∧ s.closeMeasured.triggers = s.triggers
      ∧ s.closeMeasured.heads = s.heads ∧ s.closeMeasured.journal = s.journal ∧ s.closeMeasured.ports = s.ports
      ∧ s.closeMeasured.windows = s.windows ∧ s.closeMeasured.flags = s.flags ∧ s.closeMeasured.settings = s.settings
      ∧ s.closeMeasured.pending = s.pending := by
  simp only [State.closeMeasured, forHeads]; simp

theorem State.measure_energy (s : State) : s.measure.energy = { s.takeReading.energy with
    effective := worse s.takeReading.energy.voltageTier s.takeReading.energy.floor.tier } := State.judgeTier_energy _

theorem State.accountMember_voltage (s : State) (h : Head) :
    (State.accountMember h s).energy.voltageTier = s.energy.voltageTier := by
  unfold State.accountMember
  split
  · rw [State.account, State.judgeTier_energy]; simp [State.judgeFloor, State.addCharge, State.modOnTime]
  · rfl

theorem State.closeMeasured_reading (s : State) : s.closeMeasured.energy.reading = min s.bsense.level 16383
    ∧ s.closeMeasured.energy.readingTime = s.time.count
    ∧ s.closeMeasured.energy.voltageTier =
        judgeVoltage s.settings s.energy.voltageTier (min s.bsense.level 16383)
    ∧ s.closeMeasured.energy.effective = worse s.closeMeasured.energy.voltageTier s.closeMeasured.energy.floor.tier := by
  simp only [State.closeMeasured, State.measure_energy, State.takeReading, batteryMillivolts, Config.maxMillivolts, forHeads]
  simp [State.accountMember_voltage]

theorem State.energyClose_of_noEntry (noEntry : s.closeMeasured.energy.effective ≠ .halt ∨ s.energy.effective = .halt) :
    s.energyClose = s.closeMeasured := by
  refine if_neg ?_
  rintro ⟨halt, short⟩
  exact noEntry.elim (fun h => h halt) short

/-- The close of a frame up to its three blocks: the outcome set, the arm timer stopped. -/
def State.closeBegun (s : State) (g : Frame) : State := { s with frame := some g.concluded, armTimer := none }

/-- The close takes the part into HALT by no entry of its own. -/
def State.ClosesWithoutEntry (s : State) (g : Frame) : Prop :=
  (s.closeBegun g).closeMeasured.energy.effective ≠ .halt ∨ s.energy.effective = .halt

theorem State.closesWithoutEntry_of_voltage
    (out : judgeVoltage s.settings s.energy.voltageTier (min s.bsense.level 16383) ≠ .halt) : s.ClosesWithoutEntry g := by
  obtain ⟨-, -, voltage, effective⟩ := (s.closeBegun g).closeMeasured_reading
  refine .inl ?_
  rw [effective, voltage]
  exact worse_ne_halt out

theorem State.closedUp_eq (noEntry : s.ClosesWithoutEntry g) : s.closedUp g =
    { ((s.closeBegun g).closeMeasured.planClose g.concluded).journalClose g.concluded with
      frame := none, sched := s.sched.afterFrame g } := by
  have taken : s.takeUpClose g.concluded =
      { ((s.closeBegun g).closeMeasured.planClose g.concluded).journalClose g.concluded with frame := none } := by
    rw [← State.energyClose_of_noEntry (s := s.closeBegun g) noEntry]; rfl
  rw [State.closedUp, taken]
  simp [State.closeBegun]

/-- Without a schedule the close leaves no due time. -/
theorem State.closeFrame_of_noSchedule (without : (s.closedUp g).noSchedule = true) :
    s.closeFrame g = { s.closedUp g with sched := (s.closedUp g).sched.noDue } := by
  have due : (s.closedUp g).computeDue = { s.closedUp g with sched := (s.closedUp g).sched.noDue } := by
    rw [State.computeDue, if_pos without]
  rw [State.closeFrame_eq, due]
  exact State.tryOpen_of_none rfl

/-- What a close leaves that neither enters HALT nor has a schedule to compute. -/
theorem State.closeFrame_settled (noEntry : s.ClosesWithoutEntry g) (without : (s.closedUp g).noSchedule = true) :
    s.closeFrame g = { ((s.closeBegun g).closeMeasured.planClose g.concluded).journalClose g.concluded with
      frame := none, sched := (s.sched.afterFrame g).noDue } := by
  rw [State.closeFrame_of_noSchedule without, State.closedUp_eq noEntry]

theorem Scheduler.afterFrame_keeps (c : Scheduler) (g : Frame) :
    (c.afterFrame g).run = c.run ∧ (c.afterFrame g).skipped = c.skipped ∧ (c.afterFrame g).interval = c.interval := by
  unfold Scheduler.afterFrame
  split <;> exact ⟨rfl, rfl, rfl⟩

theorem State.closedUp_noSchedule_of_held (held : s.sched.run = .held) (noEntry : s.ClosesWithoutEntry g) :
    (s.closedUp g).noSchedule = true := by
  have run : (s.closedUp g).sched.run = .held := by
    rw [State.closedUp_eq noEntry]
    exact (s.sched.afterFrame_keeps g).1.trans held
  simp [State.noSchedule, run]

theorem State.planClose_held (held : s.sched.run = .held) (settled : s.plan.swapPending = none) {o : FrameOutcome}
    (outcome : g.outcome = some o) :
    (s.plan.Counts g o → (s.planClose g).plan = { s.plan with remaining := s.plan.remaining.map (· - 1) })
      ∧ (¬ s.plan.Counts g o → (s.planClose g).plan = s.plan) := by
  cases counts : s.frameCounts g with
  | true =>
    obtain ⟨count, -⟩ := (State.frameCounts_iff outcome).mp counts
    refine ⟨fun _ => ?_, fun not => absurd count not⟩
    rw [State.planClose_of_counts settled counts, if_neg (by simp [held]), State.countFrame_of_counts counts]
  | false =>
    rw [State.planClose_of_not settled counts]
    refine ⟨fun count => ?_, fun _ => rfl⟩
    have spent : s.plan.remaining.map (· - 1) = s.plan.remaining := by
      rcases left : s.plan.remaining with _ | _ | n
      · rfl
      · rfl
      · exact absurd ((State.frameCounts_iff outcome).mpr ⟨count, n, left⟩) (by simp [counts])
    rw [spent]

theorem State.planClose_swap (s : State) (g : Frame) {e : Nat} (pending : s.plan.swapPending = some e) :
    (s.planClose g).plan.active = s.plan.active.other ∧ (s.planClose g).plan.index = e
      ∧ (s.planClose g).plan.entry = (s.plan.entry + 1) % 4294967296 ∧ (s.planClose g).plan.swapPending = none := by
  rw [State.planClose_of_pending g pending, State.swapBanks_plan]
  refine ⟨?_, rfl, ?_, rfl⟩ <;>
    · unfold State.countFrame
      split <;> rfl

theorem State.journalClose_ring (s : State) (g : Frame) : (s.journalClose g).journal.ring =
    (if 256 ≤ s.journal.ring.length then s.journal.ring.drop 1 else s.journal.ring) ++ [s.recordOf g] := by
  rw [State.journalClose_journal]; rfl

/-- What the close of a frame leaves of a HELD part. -/
theorem State.closedHeld {v : State} (held : s.sched.run = .held) (out : s.CloseStaysOutOfHalt)
    (decided : ∀ (h : Head) (m : Member), g.members.get h = some m → m.outcome.isSome = true)
    (kept : v.sched = s.sched ∧ v.plan = s.plan ∧ v.journal = s.journal ∧ v.settings = s.settings ∧ v.time = s.time
      ∧ v.bsense = s.bsense ∧ v.energy.voltageTier = s.energy.voltageTier) : s.ClosedHeld (v.closeFrame g) g := by
  obtain ⟨sched, plan, journal, settings, time, bsense, voltage⟩ := kept
  have noEntry : v.ClosesWithoutEntry g := by
    refine State.closesWithoutEntry_of_voltage ?_
    rw [settings, voltage, bsense]; exact out
  have run : v.sched.run = .held := by rw [sched, held]
  rw [State.closeFrame_settled noEntry (State.closedUp_noSchedule_of_held run noEntry)]
  obtain ⟨reading, readingTime, -, -⟩ := (v.closeBegun g).closeMeasured_reading
  have begun : (v.closeBegun g).closeMeasured.plan = s.plan := by simp [State.closeBegun, plan]
  have begunRun : (v.closeBegun g).closeMeasured.sched.run = .held := by simp [State.closeBegun, run]
  refine ⟨((v.closeBegun g).closeMeasured.planClose g.concluded).recordOf g.concluded, g.judgeOutcome_concludes, rfl, ?_, ?_,
    rfl, rfl, fun h m member => ?_, ?_, ?_, ?_, ?_, fun kept => ?_, fun own alone => ?_, ?_, rfl, rfl, ?_, fun e pending => ?_,
    fun settled => ?_, fun settled => ?_⟩
  · simp [State.closeBegun]
  · have ring : ((v.closeBegun g).closeMeasured.planClose g.concluded).journal = s.journal := by
      simp [State.closeBegun, journal]
    rw [State.journalClose_ring, ring]
  · refine ⟨entryOf m, by rw [recordOf_heads]; simp [Frame.concluded, member], ?_⟩
    obtain ⟨o, outcome⟩ := Option.isSome_iff_exists.mp (decided h m member)
    simp [entryOf, outcome]
  · simpa [State.closeBegun, bsense] using reading
  · simpa [State.closeBegun, time] using readingTime
  · simp [State.recordOf]
  · simp [State.recordOf]
  · rcases kept with h | h <;> simp [Scheduler.afterFrame, h, sched, Scheduler.noDue]
  · simp [Scheduler.afterFrame, own, alone, Scheduler.noDue, Scheduler.setAnchor]
  · exact (v.sched.afterFrame_keeps g).1.trans run
  · exact (v.sched.afterFrame_keeps g).2.1.trans (by rw [sched])
  · have swap := State.planClose_swap (v.closeBegun g).closeMeasured g.concluded (by rw [begun]; exact pending)
    rw [begun] at swap
    simpa only [State.journalClose_keeps] using swap
  · obtain ⟨counted, -⟩ := State.planClose_held (g := g.concluded) begunRun (by rw [begun]; exact settled) rfl
    rw [begun] at counted
    simp only [State.journalClose_keeps]
    exact counted
  · obtain ⟨-, uncounted⟩ := State.planClose_held (g := g.concluded) begunRun (by rw [begun]; exact settled) rfl
    rw [begun] at uncounted
    simp only [State.journalClose_keeps]
    exact uncounted

/-! ### Heads, triggers and accumulators at such a close -/

theorem State.closeFrame_settled_keeps (noEntry : s.ClosesWithoutEntry g) (without : (s.closedUp g).noSchedule = true) :
    (s.closeFrame g).heads = s.heads ∧ (s.closeFrame g).triggers = s.triggers
      ∧ (s.closeFrame g).energy = (s.closeBegun g).closeMeasured.energy := by
  rw [State.closeFrame_settled noEntry without]
  simp [State.closeBegun]

theorem State.closeFrame_held_keeps (held : s.sched.run = .held)
    (out : judgeVoltage s.settings s.energy.voltageTier (min s.bsense.level 16383) ≠ .halt) :
    (s.closeFrame g).heads = s.heads ∧ (s.closeFrame g).triggers = s.triggers
      ∧ (s.closeFrame g).energy = (s.closeBegun g).closeMeasured.energy := by
  have noEntry : s.ClosesWithoutEntry g := State.closesWithoutEntry_of_voltage out
  exact State.closeFrame_settled_keeps noEntry (State.closedUp_noSchedule_of_held held noEntry)

theorem State.account_onTime (s : State) (h k : Head) : ((s.account h).energy.onTime.get k) =
    if k = h then { s.energy.onTime.get k with ms := 0 } else s.energy.onTime.get k := by
  rw [State.account, State.judgeTier_energy]
  simp only [State.judgeFloor, State.addCharge, State.modOnTime, Four.get_set]
  split
  next same => rw [same]
  next => rfl

theorem State.accountMember_onTime_zero (s : State) (h k : Head)
    (zero : (s.energy.onTime.get k).ms = 0) : ((State.accountMember h s).energy.onTime.get k).ms = 0 := by
  unfold State.accountMember
  split
  · rw [State.account_onTime]; split <;> simp [zero]
  · exact zero

/-- The accumulator of a member that is still powered is 0 after a close, as is one that was 0 before. -/
theorem State.closeMeasured_onTime {h : Head}
    (spent : ((s.member h).isSome = true ∧ s.rail h = true) ∨ (s.energy.onTime.get h).ms = 0) :
    (s.closeMeasured.energy.onTime.get h).ms = 0 := by
  have measured : s.closeMeasured.energy.onTime = (forHeads State.accountMember s).energy.onTime := by
    rw [State.closeMeasured, State.measure_energy]; rfl
  rw [measured]
  refine forHeads_at h
    (before := fun t => t.frame = s.frame ∧ t.heads = s.heads ∧ ((s.energy.onTime.get h).ms = 0 → (t.energy.onTime.get h).ms = 0))
    (after := fun t => (t.energy.onTime.get h).ms = 0) ⟨rfl, rfl, id⟩ ?_ ?_ ?_
  · rintro k t - ⟨frame, heads, zero⟩
    exact ⟨by simp [frame], by simp [heads], fun start => State.accountMember_onTime_zero _ _ _ (zero start)⟩
  · rintro t ⟨frame, heads, zero⟩
    rcases spent with ⟨member, rail⟩ | start
    · have powered : (t.member h).isSome = true ∧ t.rail h = true :=
        ⟨by rw [State.member_congr h frame]; exact member, by rw [State.rail, heads]; exact rail⟩
      rw [State.accountMember, if_pos powered, State.account_onTime, if_pos rfl]
    · exact State.accountMember_onTime_zero _ _ _ (zero start)
  · rintro k t - zero
    exact State.accountMember_onTime_zero _ _ _ zero

end

end Sys2Proof.Machine

/-! ## Timers of the heads that run out -/

namespace Sys2Proof.Machine

section

variable {s : State} {h : Head} {o : EntryOutcome}

theorem hasEvent_headExcluded_tierChanged (x : EventField) :
    hasEvent (x ||| Event.tierChanged.mask) .headExcluded = hasEvent x .headExcluded := by
  simp [hasEvent, Event.mask, Event.position]

/-- A judgement of the tier leaves HEAD_EXCLUDED. -/
theorem State.judgeTier_headExcluded (s : State) (st : Station) :
    hasEvent (s.judgeTier.stations.get st).flags .headExcluded = hasEvent (s.stations.get st).flags .headExcluded := by
  unfold State.judgeTier
  dsimp only
  split
  · rfl
  · rw [State.raiseBoth_stations]
    cases st <;> exact hasEvent_headExcluded_tierChanged _

theorem State.railOff_headExcluded (s : State) (h : Head) (st : Station) :
    hasEvent ((s.railOff h).stations.get st).flags .headExcluded = hasEvent (s.stations.get st).flags .headExcluded := by
  have stations : (s.railOff h).stations = (s.stopOnTime h).stations := by
    simp [State.railOff, State.resetPort_headPort_stations]
  rw [stations, State.stopOnTime]
  split
  · exact (State.judgeTier_headExcluded _ st).trans (by simp)
  · rfl

/-! ### A member that fails one of its own steps -/

/-- The state in which a failed member leaves the part: outcome, miss, rail off. -/
def State.failed (s : State) (h : Head) (o : EntryOutcome) : State := ((s.decideEntry h o).countMiss h).railOff h

theorem State.failMember_eq (s : State) (h : Head) (o : EntryOutcome) :
    s.failMember h o = (s.failed h o).finish s.energy.effective := rfl

@[simp] theorem State.failed_keeps (s : State) (h : Head) (o : EntryOutcome) :
    (s.failed h o).bsense = s.bsense ∧ (s.failed h o).time = s.time ∧ (s.failed h o).sched = s.sched
      ∧ (s.failed h o).plan = s.plan ∧ (s.failed h o).meter = s.meter ∧ (s.failed h o).ramps = s.ramps
      ∧ (s.failed h o).journal = s.journal ∧ (s.failed h o).settings = s.settings := by
  simp [State.failed]

theorem State.failed_member_ne {k : Head} (other : k ≠ h) : (s.failed h o).member k = s.member k := by
  simp [State.failed, other]

theorem State.failed_frame {f : Frame} {m : Member} (frame : s.frame = some f) (member : f.members.get h = some m)
    (open_ : m.outcome = none) :
    (s.failed h o).frame = some { f with members := f.members.set h (some { m with outcome := some o }) } := by
  simp [State.failed, State.decideEntry_frame, frame, member, Member.decided, open_]

theorem State.failed_outcome (open_ : s.undecided h = true) : (s.failed h o).outcomeOf h = some o :=
  State.outcomeOf_decided open_ (by simp [State.failed])

section

variable (awake : (s.heads.get h).state ≠ .standby)

include awake

theorem State.failed_heads : (s.failed h o).heads = s.heads.set h { (s.heads.get h).enter .off with
    miss := min ((s.heads.get h).miss + 1) 15
    exclusion := if (s.settings.head.get h).missLimit ≤ min ((s.heads.get h).miss + 1) 15 then
        (s.heads.get h).exclusion.or (some .misses) else (s.heads.get h).exclusion
    keepOff := false } := by
  have awake' : ((s.decideEntry h o).heads.get h).state ≠ .standby := by simpa using awake
  rw [State.failed, State.railOff_heads, State.countMiss_heads awake']
  simp [HeadSeq.enter, State.headSettings]

theorem State.failed_ne {k : Head} (other : k ≠ h) : (s.failed h o).heads.get k = s.heads.get k
    ∧ (s.failed h o).triggers.get k = s.triggers.get k
    ∧ (s.failed h o).ports.get (headPort k) = s.ports.get (headPort k) := by
  have awake' : ((s.decideEntry h o).heads.get h).state ≠ .standby := by simpa using awake
  obtain ⟨-, trigger, port⟩ := State.railOff_ne (s := (s.decideEntry h o).countMiss h) other
  refine ⟨by rw [State.failed_heads awake]; simp [other], trigger.trans ?_, port.trans ?_⟩
  · rw [State.countMiss_triggers awake']; simp
  · rw [State.countMiss_ports awake']; simp

theorem State.failed_excluded (admitted : (s.heads.get h).exclusion = none)
    (limit : (s.settings.head.get h).missLimit ≤ min ((s.heads.get h).miss + 1) 15) :
    ((s.failed h o).heads.get h).exclusion = some .misses
      ∧ ∀ st : Station, hasEvent ((s.failed h o).stations.get st).flags .headExcluded = true := by
  refine ⟨by rw [State.failed_heads awake]; simp [limit, admitted], fun st => ?_⟩
  exact State.railOff_events _ h st _ (State.countMiss_raised (by simpa using admitted) (by simpa using limit) st)

theorem State.failed_notExcluded (quiet : (s.heads.get h).exclusion.isSome = true
    ∨ min ((s.heads.get h).miss + 1) 15 < (s.settings.head.get h).missLimit) :
    ((s.failed h o).heads.get h).exclusion = (s.heads.get h).exclusion
      ∧ ∀ st : Station, hasEvent ((s.failed h o).stations.get st).flags .headExcluded =
          hasEvent (s.stations.get st).flags .headExcluded := by
  constructor
  · rw [State.failed_heads awake, Four.get_set_self]
    dsimp only
    rcases quiet with excluded | low
    · obtain ⟨r, reason⟩ := Option.isSome_iff_exists.mp excluded
      simp [reason]
    · rw [if_neg (Nat.not_le_of_lt low)]
  · intro st
    have quiet' : (s.decideEntry h o).countMiss h =
        (s.decideEntry h o).modHead h (fun x => { x with miss := saturate Config.maxMisses (x.miss + 1) }) := by
      refine State.judgeMisses_quiet ?_
      simpa [State.headSettings, saturate, Config.maxMisses] using quiet
    rw [State.failed, State.railOff_headExcluded, quiet']
    simp

end

section

variable (on : (s.heads.get h).state ≠ .off) (awake : (s.heads.get h).state ≠ .standby)

include awake

theorem State.missed_energy : ((s.decideEntry h o).countMiss h).energy = s.energy := by
  rw [State.countMiss_energy (by simpa using awake)]; simp

theorem State.failed_voltage : (s.failed h o).energy.voltageTier = s.energy.voltageTier := by
  rw [State.failed, State.railOff_voltage, State.missed_energy awake]

theorem State.failed_tier (voltage : s.energy.voltageTier ≠ .halt) :
    (s.failed h o).energy.effective = s.energy.effective ∨ (s.failed h o).energy.effective ≠ .halt := by
  rw [← State.missed_energy (o := o) awake] at voltage
  have tier := State.railOff_tier (h := h) voltage
  rwa [State.missed_energy awake] at tier

include on

theorem State.missed_rail : ((s.decideEntry h o).countMiss h).rail h = true := by
  refine State.rail_of_ne_off ?_
  rw [State.countMiss_heads (by simpa using awake)]
  simpa using on

theorem State.failed_onTime : ((s.failed h o).energy.onTime.get h).ms = 0
    ∧ ((s.failed h o).energy.onTime.get h).running = false
    ∧ (s.failed h o).energy.spend =
        min (s.energy.spend + (s.energy.onTime.get h).ms * (s.settings.head.get h).current / 1000) 4294967295 := by
  have rail := State.missed_rail (o := o) on awake
  refine ⟨State.railOff_onTime rail, State.railOff_running rail, ?_⟩
  rw [State.failed, State.railOff_spend rail, State.missed_energy awake]
  simp

end

theorem State.failed_state (s : State) (h : Head) (o : EntryOutcome) : ((s.failed h o).heads.get h).state = .off :=
  State.railOff_state _ h

theorem State.failed_quiet (s : State) (h : Head) (o : EntryOutcome) : ((s.failed h o).triggers.get h).Quiet :=
  State.railOff_quiet _ h

theorem State.failed_decided (open_ : s.undecided h = true) : (s.failed h o).memberFinished h = true := by
  refine State.memberFinished_of_off ?_ (s.failed_state h o)
  obtain ⟨m, entry, -⟩ := (State.undecided_iff _ _).mp open_
  have outcome := State.failed_outcome (o := o) open_
  rw [State.outcomeOf] at outcome
  unfold State.undecided
  cases member : (s.failed h o).member h with
  | none => rfl
  | some n => simp_all

/-- The three timers under which a member fails. -/
theorem exec_failing {i : Instr} (runs : s.runs = true)
    (expiry : (i = .helloTimerExpiry h ∧ o = .noHello ∧ (s.heads.get h).hello.isSome = true)
      ∨ (i = .readyTimerExpiry h ∧ o = .noReady ∧ (s.heads.get h).ready.isSome = true)
      ∨ (i = .resultTimerExpiry h ∧ o = .noResult ∧ (s.heads.get h).result.isSome = true)) :
    exec i s = .next ((s.failed h o).finish s.energy.effective) := by
  rw [← State.failMember_eq]
  rcases expiry with ⟨rfl, rfl, set⟩ | ⟨rfl, rfl, set⟩ | ⟨rfl, rfl, set⟩ <;>
    exact congrArg Host.Outcome.next ((State.whileRunning_of_runs runs _).trans (if_pos set))

/-! ### The end of the grace -/

section

variable {f : Frame}

theorem HeadSeq.storedExclusion_none {x : HeadSeq} (closing : x.state = .closing) :
    x.storedExclusion = none ↔ x.exclusion = none ∧ x.storageMark = false := by
  unfold HeadSeq.storedExclusion
  cases x.storageMark <;> cases x.exclusion <;> simp [closing]

/-- The standby conditions at the end of the grace, with the storage mark that is applied first (spec/06 R116). -/
theorem State.standbyAllowed_iff (frame : s.frame = some f) (closing : (s.heads.get h).state = .closing) :
    (s.storageApplied h).standbyAllowed h = true ↔ f.interval ≤ (s.settings.head.get h).standbyThreshold
      ∧ s.energy.effective ≠ .halt ∧ (s.heads.get h).exclusion = none ∧ (s.heads.get h).keepOff = false
      ∧ (s.heads.get h).storageMark = false := by
  simp only [State.standbyAllowed, State.storageApplied_keeps, State.storageApplied_heads, frame, Four.get_set_self,
    State.headSettings, Bool.and_eq_true, decide_eq_true_iff, Option.isNone_iff_eq_none, Bool.not_eq_true',
    HeadSeq.storedExclusion_none closing]
  tauto

/-- The state in which the grace leaves its head. -/
def State.graceEnded (s : State) (h : Head) : State := (s.storageApplied h).leaveClosing h

theorem exec_graceTimerExpiry (runs : s.runs = true) (closing : (s.heads.get h).state = .closing)
    (set : (s.heads.get h).grace.isSome = true) :
    exec (.graceTimerExpiry h) s = .next ((s.graceEnded h).finish s.energy.effective) := by
  refine congrArg Host.Outcome.next ((State.whileRunning_of_runs runs _).trans ((if_pos set).trans ?_))
  rw [State.graceEnded, State.storageApplied, if_pos closing]

theorem State.graceEnded_allowed (allowed : (s.storageApplied h).standbyAllowed h = true) :
    s.graceEnded h = (s.storageApplied h).enterStandby h := if_pos allowed

theorem State.graceEnded_refused (refused : ¬ (s.storageApplied h).standbyAllowed h = true) : s.graceEnded h = s.cutHead h :=
  if_neg refused

@[simp] theorem State.graceEnded_keeps (s : State) (h : Head) :
    (s.graceEnded h).bsense = s.bsense ∧ (s.graceEnded h).time = s.time ∧ (s.graceEnded h).sched = s.sched
      ∧ (s.graceEnded h).plan = s.plan ∧ (s.graceEnded h).meter = s.meter ∧ (s.graceEnded h).ramps = s.ramps
      ∧ (s.graceEnded h).frame = s.frame ∧ (s.graceEnded h).journal = s.journal
      ∧ (s.graceEnded h).settings = s.settings := by
  by_cases allowed : (s.storageApplied h).standbyAllowed h = true
  · rw [State.graceEnded_allowed allowed]; simp [State.enterStandby]
  · rw [State.graceEnded_refused allowed]; simp

theorem State.graceEnded_ne {k : Head} (other : k ≠ h) : (s.graceEnded h).heads.get k = s.heads.get k := by
  by_cases allowed : (s.storageApplied h).standbyAllowed h = true
  · rw [State.graceEnded_allowed allowed]; simp [State.enterStandby, State.storageApplied_heads, other]
  · rw [State.graceEnded_refused allowed, (State.cutHead_ne other).1]

theorem State.graceEnded_member (s : State) (h k : Head) : (s.graceEnded h).member k = s.member k :=
  State.member_congr k (by simp)

theorem State.graceEnded_standby_iff :
    ((s.graceEnded h).heads.get h).state = .standby ↔ (s.storageApplied h).standbyAllowed h = true := by
  constructor
  · intro standby
    by_contra refused
    rw [State.graceEnded_refused refused, State.cutHead_state] at standby
    cases standby
  · intro allowed
    rw [State.graceEnded_allowed allowed]; simp [State.enterStandby, HeadSeq.enter]

theorem State.graceEnded_asleep (s : State) (h : Head) :
    ((s.graceEnded h).heads.get h).state = .off ∨ ((s.graceEnded h).heads.get h).state = .standby := by
  by_cases allowed : (s.storageApplied h).standbyAllowed h = true
  · exact .inr (State.graceEnded_standby_iff.mpr allowed)
  · rw [State.graceEnded_refused allowed]; exact .inl (State.cutHead_state s h)

theorem State.graceEnded_decided (decided : s.undecided h = false) : (s.graceEnded h).memberFinished h = true := by
  rw [State.memberFinished, State.graceEnded_member]
  unfold State.undecided at decided
  rcases s.graceEnded_asleep h with off | standby <;> split <;> simp_all

theorem State.graceEnded_storageMark (closing : (s.heads.get h).state = .closing) :
    ((s.graceEnded h).heads.get h).storageMark = false := by
  by_cases allowed : (s.storageApplied h).standbyAllowed h = true
  · rw [State.graceEnded_allowed allowed]
    simp [State.enterStandby, HeadSeq.enter, State.storageApplied_heads, closing]
  · rw [State.graceEnded_refused allowed, State.cutHead, State.railOff_head]
    simp [HeadSeq.enter, State.storageApplied_heads, closing]

theorem State.graceEnded_voltage (s : State) (h : Head) : (s.graceEnded h).energy.voltageTier = s.energy.voltageTier := by
  by_cases allowed : (s.storageApplied h).standbyAllowed h = true
  · rw [State.graceEnded_allowed allowed]; simp [State.enterStandby]
  · rw [State.graceEnded_refused allowed, State.cutHead, State.railOff_voltage]; simp

theorem State.graceEnded_tier (on : (s.heads.get h).state ≠ .off) (voltage : s.energy.voltageTier ≠ .halt) :
    (s.graceEnded h).energy.effective = s.energy.effective ∨ (s.graceEnded h).energy.effective ≠ .halt := by
  by_cases allowed : (s.storageApplied h).standbyAllowed h = true
  · rw [State.graceEnded_allowed allowed]; exact .inl (by simp [State.enterStandby])
  · rw [State.graceEnded_refused allowed]; exact .inr (State.cutHead_ne_halt on voltage)

end

/-! ### A head that stays shut -/

/-- All that is known of a head once its rail has gone off, in this event or before. -/
structure State.Shut (s : State) (h : Head) : Prop where
  off : (s.heads.get h).state = .off
  standby : (s.heads.get h).standby = none
  quiet : (s.triggers.get h).Quiet
  spent : (s.energy.onTime.get h).ms = 0
  stopped : (s.energy.onTime.get h).running = false
  flags : ∀ i : Idx, s.flags.get i ≠ some (headPort h)

theorem State.railOff_released (s : State) (h : Head) (i : Idx) : (s.railOff h).flags.get i ≠ some (headPort h) := by
  rw [State.railOff_flags]
  split
  · exact nofun
  · assumption

theorem State.railOff_shut (on : s.rail h = true) : (s.railOff h).Shut h where
  off := s.railOff_state h
  standby := by simp [HeadSeq.enter]
  quiet := s.railOff_quiet h
  spent := State.railOff_onTime on
  stopped := State.railOff_running on
  flags := State.railOff_released s h

theorem State.railOff_onTime_ne {k : Head} (other : h ≠ k) : (s.railOff k).energy.onTime.get h = s.energy.onTime.get h := by
  cases on : s.rail k with
  | true => rw [State.railOff_energy on, State.account_onTime, if_neg other]; simp [State.modOnTime, other]
  | false => rw [State.railOff_energy_of_off (by simpa [State.rail] using on)]

theorem State.Shut.railOff (shut : s.Shut h) (k : Head) : (s.railOff k).Shut h := by
  by_cases same : h = k
  · subst same
    have energy := State.railOff_energy_of_off shut.off
    exact ⟨s.railOff_state h, by simp [HeadSeq.enter], s.railOff_quiet h, by rw [energy]; exact shut.spent,
      by rw [energy]; exact shut.stopped, State.railOff_released s h⟩
  · obtain ⟨head, trigger, -⟩ := State.railOff_ne (s := s) same
    refine ⟨by rw [head]; exact shut.off, by rw [head]; exact shut.standby, by rw [trigger]; exact shut.quiet,
      by rw [State.railOff_onTime_ne same]; exact shut.spent, by rw [State.railOff_onTime_ne same]; exact shut.stopped,
      fun i => ?_⟩
    rw [State.railOff_flags]
    split
    · exact nofun
    · exact shut.flags i

/-- What HALT entry does to a head, with its decision first. -/
theorem State.haltHead_eq (h : Head) (s : State) : State.haltHead h s = (s.decideEntry h .powerCut).cutHead h := rfl

theorem State.Shut.cutHead (shut : s.Shut h) (k : Head) : (s.cutHead k).Shut h := by
  refine State.Shut.railOff ⟨?_, ?_, ?_, ?_, ?_, ?_⟩ k
  all_goals simp only [State.storageApplied_keeps, State.storageApplied_heads, Four.get_set]
  · split
    next same => exact same ▸ shut.off
    next => exact shut.off
  · split
    next same => exact same ▸ shut.standby
    next => exact shut.standby
  · exact shut.quiet
  · exact shut.spent
  · exact shut.stopped
  · exact shut.flags

theorem State.Shut.haltEntry (shut : s.Shut h) : s.haltEntry.Shut h := by
  have cut (k : Head) {t : State} (shut : t.Shut h) : (State.haltHead k t).Shut h := by
    rw [State.haltHead_eq]
    exact State.Shut.cutHead ⟨by simpa using shut.off, by simpa using shut.standby, by simpa using shut.quiet,
      by simpa using shut.spent, by simpa using shut.stopped, by simpa using shut.flags⟩ k
  have begun : ({ s with sched := s.sched.noDue } : State).Shut h :=
    ⟨shut.off, shut.standby, shut.quiet, shut.spent, shut.stopped, shut.flags⟩
  have all := cut .h3 (cut .h2 (cut .h1 (cut .h0 begun)))
  exact ⟨by simpa [State.haltEntry, forHeads] using all.off, by simpa [State.haltEntry, forHeads] using all.standby,
    by simpa [State.haltEntry, forHeads] using all.quiet, by simpa [State.haltEntry, forHeads] using all.spent,
    by simpa [State.haltEntry, forHeads] using all.stopped, by simpa [State.haltEntry, forHeads] using all.flags⟩

theorem exec_standbyTimerExpiry (runs : s.runs = true) (set : (s.heads.get h).standby.isSome = true) :
    exec (.standbyTimerExpiry h) s = .next ((s.railOff h).finish s.energy.effective) :=
  congrArg Host.Outcome.next ((State.whileRunning_of_runs runs _).trans (if_pos set))

/-- A HELD part with no frame in flight keeps a shut head shut to the end of an event, and short of HALT its energy too. -/
theorem State.Shut.finish {t : State} (shut : t.Shut h) (idle : t.frame = none) (held : t.sched.run = .held) (b : Tier) :
    (t.finish b).Shut h ∧ (t.finish b).frame = none ∧ (t.finish b).windows = t.windows ∧ (t.finish b).ramps = t.ramps
      ∧ (t.energy.effective ≠ .halt → (t.finish b).energy = t.energy) := by
  by_cases same : t.energy.effective = b
  · rw [State.finish_same same (.inl idle)]
    exact ⟨shut, idle, rfl, rfl, fun _ => rfl⟩
  · by_cases halt : t.energy.effective = .halt
    · rw [State.finish_of_none idle, State.followTier, if_neg same, if_pos halt]
      exact ⟨shut.haltEntry, State.haltEntry_frame idle, by simp, by simp, fun short => absurd halt short⟩
    · rw [State.finish_of_changed idle same halt, State.reschedule_of_held idle held]
      exact ⟨⟨shut.off, shut.standby, shut.quiet, shut.spent, shut.stopped, shut.flags⟩, idle, rfl, rfl, fun _ => rfl⟩

end

end Sys2Proof.Machine

namespace Sys2Proof.Proofs

open Sys2Proof.Machine

/-- Settles O39: the failed member is decided and off, so that the frame stays open or closes as the others stand. -/
theorem timeoutsFailTheMember : Obligations.TimeoutsFailTheMember := by
  unfold Obligations.TimeoutsFailTheMember
  rintro s h i o runs open_ voltage on awake expiry
  have exec_ := exec_failing runs expiry
  have tier := State.failed_tier (o := o) awake voltage
  obtain ⟨spent, stopped, spend⟩ := State.failed_onTime (o := o) on awake
  have miss : ((s.failed h o).heads.get h).miss = min ((s.heads.get h).miss + 1) 15 := by rw [State.failed_heads awake]; simp
  have members (k : Head) (other : k ≠ h) := State.failed_member_ne (s := s) (o := o) other
  have states (k : Head) (other : k ≠ h) : ((s.failed h o).heads.get k).state = (s.heads.get k).state := by
    rw [(State.failed_ne awake other).1]
  have flight : (s.failed h o).frame.isSome = s.frame.isSome := by simp [State.failed, State.decideEntry_frame]
  have closing {f : Frame} {m : Member} (closes : s.ClosesWith h) (frame : s.frame = some f)
      (member : f.members.get h = some m) : (s.failed h o).frame =
          some { f with members := f.members.set h (some { m with outcome := some o }) }
        ∧ exec i s = .next ((s.failed h o).closeFrame
            { f with members := f.members.set h (some { m with outcome := some o }) }) := by
    obtain ⟨n, entry, outcome⟩ := (State.undecided_iff _ _).mp open_
    obtain rfl : n = m := Option.some.inj (entry.symm.trans ((State.member_some h frame).trans member))
    have frame' := State.failed_frame (o := o) frame member outcome
    exact ⟨frame', exec_.trans (congrArg Host.Outcome.next
      (State.finish_closes tier frame' (closes.congr (State.failed_decided open_) members states)))⟩
  refine ⟨fun held => ?_, fun f m closes run out frame member => ?_, fun f m closes frame member => ?_⟩
  · obtain ⟨g, other, unfinished⟩ := id held
    have ends := State.finish_unfinished tier (flight.trans (State.flight_of_unfinished unfinished))
      (held.congr members states)
    refine ⟨s.failed h o, exec_.trans (congrArg Host.Outcome.next ends), State.failed_outcome open_, s.failed_state h o,
      s.failed_quiet h o, miss, State.failed_excluded awake, State.failed_notExcluded awake, spent, stopped, spend,
      State.railOff_queue _ h, fun k other => ?_, by simp, by simp, by simp, by simp⟩
    obtain ⟨head, trigger, port⟩ := State.failed_ne (o := o) awake other
    exact ⟨head, trigger, members k other, port⟩
  · obtain ⟨frame', closed⟩ := closing closes frame member
    have finished := closes.congr (State.failed_decided (o := o) open_) members states
    have closedHeld := State.closedHeld (s := s) (v := s.failed h o) run out (State.decided_of_finished finished frame')
      ⟨by simp, by simp, by simp, by simp, by simp, by simp, State.failed_voltage awake⟩
    obtain ⟨heads, triggers, -⟩ := State.closeFrame_held_keeps (s := s.failed h o)
      (g := { f with members := f.members.set h (some { m with outcome := some o }) }) (by simpa using run)
      (by rw [State.failed_voltage awake]; simp only [State.failed_keeps]; exact out)
    exact ⟨_, closed, closedHeld, by rw [heads]; exact s.failed_state h o, by rw [triggers]; exact s.failed_quiet h o,
      by rw [heads]; exact miss, by simp⟩
  · obtain ⟨frame', closed⟩ := closing closes frame member
    exact ⟨s.failed h o, _, rfl, closed, frame', by simp, by simp, by simp, by simp, by simp, by simp, by simp, by simp,
      s.failed_state h o, s.failed_quiet h o, miss, spent, fun k other => (State.failed_ne awake other).1,
      State.failed_excluded awake, State.failed_notExcluded awake⟩

/-- Settles O40: the grace leaves its head in STANDBY or OFF, and a standby timer that runs out leaves it shut. -/
theorem graceAndStandbyTimersEnd : Obligations.GraceAndStandbyTimersEnd := by
  unfold Obligations.GraceAndStandbyTimersEnd
  refine ⟨?_, ?_, ?_⟩
  · rintro s h f runs frame closing set voltage
    have on : (s.heads.get h).state ≠ .off := by rw [closing]; exact nofun
    have exec_ := exec_graceTimerExpiry runs closing set
    have tier := State.graceEnded_tier on voltage
    have frame' : (s.graceEnded h).frame = some f := by simp [frame]
    have states (k : Head) (other : k ≠ h) : ((s.graceEnded h).heads.get k).state = (s.heads.get k).state := by
      rw [State.graceEnded_ne other]
    have stays (held : s.HeldOpenBeside h) : exec (.graceTimerExpiry h) s = .next (s.graceEnded h) :=
      exec_.trans (congrArg Host.Outcome.next (State.finish_unfinished tier (by rw [frame']; rfl)
        (held.congr (fun k _ => s.graceEnded_member h k) states)))
    have closed (closes : s.ClosesWith h) (decided : s.undecided h = false) :
        exec (.graceTimerExpiry h) s = .next ((s.graceEnded h).closeFrame f) :=
      exec_.trans (congrArg Host.Outcome.next (State.finish_closes tier frame'
        (closes.congr (State.graceEnded_decided decided) (fun k _ => s.graceEnded_member h k) states)))
    have allowed_iff := State.standbyAllowed_iff frame closing
    refine ⟨fun held within short admitted unmarked unstored => ?_, fun held refusal => ?_,
      fun closes decided member run out short => ?_, fun closes decided _ => ?_⟩
    · have same : s.storageApplied h = s := by
        rw [State.storageApplied, if_pos closing, State.applyStorageMark, unstored]; rfl
      rw [stays held, State.graceEnded_allowed (allowed_iff.mpr ⟨within, short, admitted, unmarked, unstored⟩), same]
      rfl
    · have refused : ¬ (s.storageApplied h).standbyAllowed h = true := by
        rw [allowed_iff]
        rintro ⟨within, short, admitted, unmarked, unstored⟩
        rcases refusal with beyond | halt | excluded | marked | stored
        · omega
        · exact short halt
        · simp [admitted] at excluded
        · simp [unmarked] at marked
        · simp [unstored] at stored
      obtain ⟨spent, -⟩ := State.cutHead_onTime on
      obtain ⟨-, exclusion⟩ := s.cutHead_head h
      refine ⟨s.cutHead h, ?_, s.cutHead_state h, ?_, ?_, s.cutHead_quiet h, spent, State.cutHead_spend on, ?_,
        fun k other => (State.cutHead_ne other).1⟩
      · rw [stays held, State.graceEnded_refused refused]
      · rw [State.cutHead, State.railOff_head]
      · rw [← State.graceEnded_refused refused]; exact State.graceEnded_storageMark closing
      · intro stored admitted
        rw [exclusion, HeadSeq.storedExclusion, if_pos ⟨closing, stored, admitted⟩]
    · have finished : (s.graceEnded h).frameFinished = true :=
        closes.congr (State.graceEnded_decided decided) (fun k _ => s.graceEnded_member h k) states
      have closedHeld := State.closedHeld (s := s) (v := s.graceEnded h) run out (State.decided_of_finished finished frame')
        ⟨by simp, by simp, by simp, by simp, by simp, by simp, s.graceEnded_voltage h⟩
      obtain ⟨heads, -, energy⟩ := State.closeFrame_held_keeps (s := s.graceEnded h) (g := f) (by simpa using run)
        (by rw [State.graceEnded_voltage]; simp only [State.graceEnded_keeps]; exact out)
      refine ⟨_, closed closes decided, closedHeld, fun within admitted unmarked unstored => ?_, fun refusal => ?_, ?_⟩
      · rw [heads, State.graceEnded_standby_iff, allowed_iff]
        exact ⟨within, short, admitted, unmarked, unstored⟩
      · rw [heads]
        refine (s.graceEnded_asleep h).resolve_right ?_
        rw [State.graceEnded_standby_iff, allowed_iff]
        rintro ⟨within, -, admitted, unmarked, unstored⟩
        rcases refusal with beyond | excluded | marked | stored
        · omega
        · simp [admitted] at excluded
        · simp [unmarked] at marked
        · simp [unstored] at stored
      · rw [energy]
        refine State.closeMeasured_onTime ?_
        by_cases allowed : (s.storageApplied h).standbyAllowed h = true
        · refine .inl ⟨by rwa [State.member_some h rfl, Frame.concluded, ← State.member_some h frame], ?_⟩
          refine State.rail_of_ne_off ?_
          rw [State.closeBegun, State.graceEnded_standby_iff.mpr allowed]; exact nofun
        · refine .inr ?_
          rw [State.closeBegun, State.graceEnded_refused allowed]
          exact (State.cutHead_onTime on).1
    · refine ⟨s.graceEnded h, closed closes decided, frame', by simp, by simp, by simp, by simp, by simp, by simp, by simp,
        by simp, State.graceEnded_storageMark closing, s.graceEnded_asleep h,
        State.graceEnded_standby_iff.trans allowed_iff, fun off => ?_, fun k other => State.graceEnded_ne other⟩
      have refused : ¬ (s.storageApplied h).standbyAllowed h = true := by
        rw [← State.graceEnded_standby_iff, off]; exact nofun
      rw [State.graceEnded_refused refused]
      exact ⟨s.cutHead_quiet h, (State.cutHead_onTime on).1⟩
  · rintro s h runs idle held standby set
    have rail : s.rail h = true := State.rail_of_ne_off (by rw [standby]; exact nofun)
    obtain ⟨shut, idle', windows, ramps, energy⟩ := (State.railOff_shut rail).finish (b := s.energy.effective)
      (by simpa using idle) (by simpa using held)
    refine ⟨_, exec_standbyTimerExpiry runs set, shut.off, shut.standby, shut.quiet, shut.spent, shut.stopped,
      fun voltage => ?_, shut.flags, windows.trans (by simp), ramps.trans (by simp), idle'⟩
    rw [energy (State.railOff_ne_halt rail voltage)]
    exact State.railOff_spend rail
  · rintro s h runs standby set tier rest
    have rail : s.rail h = true := State.rail_of_ne_off (by rw [standby]; exact nofun)
    have same : (s.railOff h).energy.effective = s.energy.effective := by
      rw [State.railOff_effective rail, State.railOff_floor rail, State.railOff_spend rail]; exact tier
    have open_ : (s.railOff h).frame = none ∨ (s.railOff h).frameFinished = false := by
      rcases rest with idle | held | undecided
      · exact .inl (by simpa using idle)
      · exact .inr (held.congr (fun k _ => by simp) fun k other => by rw [(State.railOff_ne other).1])
      · exact .inr (State.unfinished_of_undecided ((State.undecided_congr h (by simp)).trans undecided))
    have shut := State.railOff_shut rail
    refine ⟨s.railOff h, ?_, shut.off, shut.standby, shut.quiet, shut.spent, State.railOff_spend rail, fun g other => ?_,
      by simp, by simp, by simp, by simp, by simp⟩
    · rw [exec_standbyTimerExpiry runs set, State.finish_same same open_]
    · obtain ⟨head, trigger, -⟩ := State.railOff_ne (s := s) other
      exact ⟨head, trigger⟩

end Sys2Proof.Proofs

/-! ## Port resets -/

namespace Sys2Proof.Machine

section

variable {s : State} {h : Head}

/-! ### The abort of a LOCKED frame -/

/-- A head whose undecided part is aborted: CLOSING, unless it is OFF or STANDBY. -/
def HeadSeq.aborted (x : HeadSeq) : HeadSeq := if x.state = .off ∨ x.state = .standby then x else x.enterClosing

theorem State.abortMember_of_decided (decided : s.undecided h = false) : State.abortMember h s = s := by
  simp [State.abortMember, decided]

theorem State.abortMember_of_undecided (open_ : s.undecided h = true) :
    State.abortMember h s = (s.decideEntry h .aborted).modHead h HeadSeq.aborted := by
  have still (off : (s.heads.get h).aborted = s.heads.get h) :
      s.decideEntry h .aborted = (s.decideEntry h .aborted).modHead h HeadSeq.aborted := by
    have head : ((s.decideEntry h .aborted).heads.get h).aborted = (s.decideEntry h .aborted).heads.get h := by
      simpa using off
    rw [State.modHead, head, Four.set_get]
  unfold State.abortMember
  rw [if_pos open_]
  cases state : (s.heads.get h).state with
  | off | standby => exact still (by simp [HeadSeq.aborted, state])
  | _ => simp [State.modHead, HeadSeq.aborted, state]

theorem State.abortMember_ne (s : State) {h k : Head} (other : h ≠ k) :
    (State.abortMember h s).member k = s.member k ∧ (State.abortMember h s).heads.get k = s.heads.get k := by
  cases open_ : s.undecided h with
  | false => rw [State.abortMember_of_decided open_]; exact ⟨rfl, rfl⟩
  | true => rw [State.abortMember_of_undecided open_]; simp [other.symm]

/-- What an abort leaves of each member: the decided ones as they were. -/
theorem State.abortMembers (s : State) (k : Head) :
    (forHeads State.abortMember s).member k = (if s.undecided k then (s.member k).map (Member.decided .aborted) else s.member k)
      ∧ (forHeads State.abortMember s).heads.get k = (if s.undecided k then (s.heads.get k).aborted else s.heads.get k) := by
  refine forHeads_at k (before := fun t => t.member k = s.member k ∧ t.heads.get k = s.heads.get k)
    (after := fun t => t.member k = (if s.undecided k then (s.member k).map (Member.decided .aborted) else s.member k)
      ∧ t.heads.get k = (if s.undecided k then (s.heads.get k).aborted else s.heads.get k)) ⟨rfl, rfl⟩ ?_ ?_ ?_
  · rintro h t other ⟨member, head⟩
    obtain ⟨member', head'⟩ := t.abortMember_ne other
    exact ⟨member'.trans member, head'.trans head⟩
  · rintro t ⟨member, head⟩
    have same : t.undecided k = s.undecided k := State.undecided_congr k member
    cases open_ : s.undecided k with
    | false => rw [State.abortMember_of_decided (same.trans open_)]; exact ⟨member, head⟩
    | true => rw [State.abortMember_of_undecided (same.trans open_)]; simp [member, head]
  · rintro h t other ⟨member, head⟩
    obtain ⟨member', head'⟩ := t.abortMember_ne other
    exact ⟨member'.trans member, head'.trans head⟩

theorem State.abortLocked_member (s : State) (k : Head) : s.abortLocked.member k =
    if s.undecided k then (s.member k).map (Member.decided .aborted) else s.member k := by
  rw [← (s.abortMembers k).1]
  exact State.setSync_member _ _ k

theorem State.abortLocked_head (s : State) (k : Head) : s.abortLocked.heads.get k =
    if s.undecided k then (s.heads.get k).aborted else s.heads.get k := by
  rw [← (s.abortMembers k).2]
  simp [State.abortLocked, State.setSync]

/-! ### The loss of a member -/

/-- The state in which a member is lost: RESET, rail off. -/
def State.lost (s : State) (h : Head) : State := (s.decideEntry h .reset).railOff h

section

variable {f : Frame}

theorem State.abortMember_frame (frame : s.frame = some f) :
    ∃ m : Four (Option Member), (State.abortMember h s).frame = some { f with members := m } := by
  cases open_ : s.undecided h with
  | false => exact ⟨f.members, by rw [State.abortMember_of_decided open_, frame]⟩
  | true => rw [State.abortMember_of_undecided open_]; exact ⟨_, by simp [State.decideEntry_frame, frame]; rfl⟩

theorem State.abortLocked_frame (frame : s.frame = some f) :
    ∃ m : Four (Option Member), s.abortLocked.frame = some { f with members := m, sync := .aborted } := by
  obtain ⟨m0, h0⟩ := State.abortMember_frame (h := .h0) frame
  obtain ⟨m1, h1⟩ := State.abortMember_frame (h := .h1) h0
  obtain ⟨m2, h2⟩ := State.abortMember_frame (h := .h2) h1
  obtain ⟨m3, h3⟩ := State.abortMember_frame (h := .h3) h2
  exact ⟨m3, by simp [State.abortLocked, forHeads, State.setSync, h3]⟩

theorem State.lost_frame (frame : s.frame = some f) : (s.lost h).frame =
    some { f with members := f.members.set h ((f.members.get h).map (Member.decided .reset)) } := by
  simp [State.lost, State.decideEntry_frame, frame]

theorem State.loseMember_before (frame : s.frame = some f) (before : f.sync = .waiting ∨ f.sync = .window) :
    s.loseMember h = (s.lost h).abortLocked := by
  have lost := State.lost_frame (h := h) frame
  unfold State.loseMember
  rw [State.lost] at lost
  dsimp only
  rw [lost]
  rcases before with sync | sync <;>
    · simp only [sync]
      rfl

theorem State.loseMember_after (frame : s.frame = some f) (waiting : f.sync ≠ .waiting) (window : f.sync ≠ .window) :
    s.loseMember h = s.lost h := by
  have lost := State.lost_frame (h := h) frame
  unfold State.loseMember
  rw [State.lost] at lost
  dsimp only
  rw [lost]
  cases sync : f.sync with
  | waiting => exact absurd sync waiting
  | window => exact absurd sync window
  | _ => rfl

end

theorem State.lost_member_self (s : State) (h : Head) : (s.lost h).member h = (s.member h).map (Member.decided .reset) := by
  simp [State.lost]

theorem State.lost_member_ne {k : Head} (other : k ≠ h) : (s.lost h).member k = s.member k := by simp [State.lost, other]

theorem State.lost_ne {k : Head} (other : k ≠ h) :
    (s.lost h).heads.get k = s.heads.get k ∧ (s.lost h).triggers.get k = s.triggers.get k := by
  simp [State.lost, other]

theorem State.lost_head (s : State) (h : Head) :
    (s.lost h).heads.get h = { (s.heads.get h).enter .off with keepOff := false } := by simp [State.lost]

theorem State.lost_decided (s : State) (h : Head) : (s.lost h).undecided h = false := by
  unfold State.undecided
  rw [State.lost_member_self]
  cases s.member h with
  | none => rfl
  | some m => cases outcome : m.outcome <;> simp [Member.decided, outcome]

theorem State.takePortReset_head (s : State) (h : Head) : s.takePortReset (headPort h) = s.resetHeadPort h := by
  rw [State.takePortReset, portHead_headPort]

theorem State.resetHeadPort_undecided (open_ : s.undecided h = true) : s.resetHeadPort h = s.loseMember h := if_pos open_

theorem State.loseMember_cases (s : State) (h : Head) :
    s.loseMember h = s.lost h ∨ s.loseMember h = (s.lost h).abortLocked := by
  unfold State.loseMember
  dsimp only
  split
  · exact .inl rfl
  · split
    case h_1 | h_2 => exact .inr rfl
    all_goals exact .inl rfl

/-- The lost member itself, whatever happens to the others. -/
theorem State.loseMember_own (s : State) (h : Head) : (s.loseMember h).member h = (s.lost h).member h
    ∧ (s.loseMember h).heads.get h = (s.lost h).heads.get h ∧ (s.loseMember h).triggers = (s.lost h).triggers
    ∧ (s.loseMember h).energy = (s.lost h).energy ∧ (s.loseMember h).ports = (s.lost h).ports := by
  rcases s.loseMember_cases h with lose | lose
  · rw [lose]; exact ⟨rfl, rfl, rfl, rfl, rfl⟩
  · have member := State.abortLocked_member (s.lost h) h
    have head := State.abortLocked_head (s.lost h) h
    rw [s.lost_decided h] at member head
    rw [lose]
    exact ⟨member, head, by simp, by simp, by simp⟩

end

end Sys2Proof.Machine

namespace Sys2Proof.Proofs

open Sys2Proof.Machine

/-- Settles O10: the member is lost, and before the fire instant of a LOCKED frame the abort reaches the others. -/
theorem portResetLosesTheMember : Obligations.PortResetLosesTheMember := by
  unfold Obligations.PortResetLosesTheMember
  rintro s f h frame open_
  rw [State.takePortReset_head, State.resetHeadPort_undecided open_]
  obtain ⟨member, head, triggers, -, -⟩ := s.loseMember_own h
  have outcome : (s.loseMember h).outcomeOf h = some .reset :=
    State.outcomeOf_decided open_ (member.trans (s.lost_member_self h))
  have off : ((s.loseMember h).heads.get h).state = .off := by rw [head, State.lost_head]; rfl
  have quiet : ((s.loseMember h).triggers.get h).Quiet := by rw [triggers]; exact State.railOff_quiet _ h
  by_cases before : f.sync = .waiting ∨ f.sync = .window
  · have lose := State.loseMember_before (h := h) frame before
    obtain ⟨m, aborted⟩ := State.abortLocked_frame (State.lost_frame (h := h) frame)
    refine ⟨_, lose ▸ aborted, outcome, off, quiet, fun _ => ⟨rfl, by rw [lose]; rfl, fun k other undecided => ?_⟩,
      fun waiting window => (before.elim waiting window).elim⟩
    have undecided' : (s.lost h).undecided k = true := (State.undecided_congr k (State.lost_member_ne other)).trans undecided
    rw [lose]
    constructor
    · refine State.outcomeOf_decided undecided ?_
      rw [State.abortLocked_member, if_pos undecided', State.lost_member_ne other]
    · rw [State.abortLocked_head, if_pos undecided', (State.lost_ne other).1, HeadSeq.aborted]
      split <;> rfl
  · obtain ⟨waiting, window⟩ := not_or.mp before
    have lose := State.loseMember_after (h := h) frame waiting window
    rw [lose] at outcome off quiet ⊢
    have frame' := State.lost_frame (h := h) frame
    exact ⟨_, frame', outcome, off, quiet, fun early => absurd early before, fun _ _ => ⟨rfl, fun k other =>
      ⟨Four.get_set_ne _ _ other, State.lost_ne other⟩⟩⟩

end Sys2Proof.Proofs

/-! ## A message that has been sent -/

namespace Sys2Proof.Machine

section

variable {s t : State} {p q : Port} {h : Head} {m : Message} {rest : List Message}

theorem exec_messageSent (runs : s.runs = true) (queue : (s.ports.get p).queue = m :: rest)
    (freed : t = s.modPort p (fun x => { x with queue := rest })) :
    exec (.messageSent p) s = .next ((State.runEffects 32 m.effect.toList t).finish s.energy.effective) := by
  subst freed
  refine congrArg Host.Outcome.next ((State.whileRunning_of_runs runs _).trans ?_)
  rw [State.messageSent, queue]
  rfl

theorem State.frameFinished_congr (frame : t.frame = s.frame) (heads : t.heads = s.heads) :
    t.frameFinished = s.frameFinished := by
  simp only [State.frameFinished, State.memberFinished, State.member_eq, frame, heads]

theorem floorOf_tier (allowance spend : Nat) :
    (floorOf allowance spend).tier = if 0 < allowance ∧ allowance ≤ spend then .economy else .normal := by
  unfold floorOf
  split <;> rfl

theorem State.frameFinished_of_none (idle : s.frame = none) : s.frameFinished = true :=
  State.frameFinished_iff.mpr fun k => by simp [State.memberFinished, State.member_eq, idle]

theorem State.HeldOpenBeside.flight (beside : s.HeldOpenBeside h) : s.frame.isSome = true := by
  obtain ⟨g, -, unfinished⟩ := beside
  exact State.flight_of_unfinished unfinished

/-- An event that leaves frame, heads and tier ends as it is. -/
theorem State.finish_still (frame : t.frame = s.frame) (heads : t.heads = s.heads)
    (tier : t.energy.effective = s.energy.effective) (open_ : s.frame = none ∨ s.frameFinished = false) :
    t.finish s.energy.effective = t :=
  State.finish_same tier (by rwa [frame, State.frameFinished_congr frame heads])

/-! ### Line speeds -/

theorem State.changeSpeed_eq (s : State) (q : Port) (v : LineSpeed) : s.changeSpeed q v =
    if (s.ports.get q).speed = v then s else s.modPort q (fun x => { x with rx := .hunt, interByte := none, speed := v }) := by
  unfold State.changeSpeed
  split
  · rfl
  · simp [State.rxToHunt_eq, State.modPort]

/-- Line speeds that take effect one after another, oldest first. -/
def State.speedsChanged (s : State) (waiting : List (Port × LineSpeed)) : State :=
  waiting.foldl (fun y w => if (y.ports.get w.1).speed = w.2 then y
    else y.modPort w.1 (fun x => { x with rx := .hunt, interByte := none, speed := w.2 })) s

theorem State.runEffects_speeds (waiting : List (Port × LineSpeed)) : ∀ (n : Nat) (s : State), waiting.length ≤ n →
    State.runEffects n (waiting.map fun w => .lineSpeed w.1 w.2) s = s.speedsChanged waiting := by
  induction waiting with
  | nil => intro n s _; cases n <;> rfl
  | cons w rest ih =>
    intro n s rounds
    obtain ⟨n, rfl⟩ : ∃ k, n = k + 1 := ⟨n - 1, by simp at rounds; omega⟩
    rw [List.map_cons, State.runEffects, ih n _ (by simpa using rounds), State.changeSpeed_eq]
    rfl

theorem State.speedsChanged_rest (waiting : List (Port × LineSpeed)) :
    ∀ s : State, s.speedsChanged waiting = { s with ports := (s.speedsChanged waiting).ports } := by
  induction waiting with
  | nil => intro s; rfl
  | cons w rest ih =>
    intro s
    rw [State.speedsChanged, List.foldl_cons]
    split
    · exact ih s
    · exact (ih _).trans rfl

/-! ### Resets -/

theorem State.runEffects_reset (s : State) (q : Port) : State.runEffects 32 [.portReset q] s =
    State.runEffects 31 (s.waitingEffects q) (s.takePortReset q) := rfl

theorem State.waitingEffects_of_plain (plain : ∀ n ∈ (s.ports.get q).queue, n.effect = none) : s.waitingEffects q = [] := by
  rw [State.waitingEffects, List.filterMap_eq_nil_iff]
  exact plain

theorem State.takePortReset_station {st : Station} (station : portStation? q = some st) :
    s.takePortReset q = s.resetPort q := by
  cases q <;> first | rfl | cases station

theorem State.resetPort_station {st : Station} (station : portStation? q = some st) :
    s.resetPort q = { s with ports := (s.resetPort q).ports, stations := (s.resetPort q).stations, flags := (s.resetPort q).flags }
      ∧ (s.resetPort q).stations = s.stations.set st { s.stations.get st with flags := 0#10 } := by
  rw [State.resetPort, State.clearEvents, station]
  exact ⟨rfl, rfl⟩

theorem State.resetPort_headPort (s : State) (h : Head) : s.resetPort (headPort h) =
    { s with ports := (s.resetPort (headPort h)).ports, flags := (s.resetPort (headPort h)).flags } := by
  cases h <;> rfl

theorem State.resetHeadPort_powered (decided : s.undecided h = false) (on : (s.heads.get h).state ≠ .off) :
    s.resetHeadPort h = s.cutHead h := by
  rw [State.resetHeadPort, if_neg (by simp [decided]), if_pos (State.rail_of_ne_off on)]
  rfl

theorem State.resetHeadPort_off (decided : s.undecided h = false) (off : (s.heads.get h).state = .off) :
    s.resetHeadPort h = s.resetPort (headPort h) := by
  rw [State.resetHeadPort, if_neg (by simp [decided]), if_neg (by simp [State.rail, off])]

theorem State.loseMember_tier (voltage : s.energy.voltageTier ≠ .halt) :
    (s.loseMember h).energy.effective = s.energy.effective ∨ (s.loseMember h).energy.effective ≠ .halt := by
  obtain ⟨-, -, -, energy, -⟩ := s.loseMember_own h
  rw [energy]
  have tier := State.railOff_tier (s := s.decideEntry h .reset) (h := h) (by simpa using voltage)
  simpa [State.lost] using tier

@[simp] theorem State.lost_keeps (s : State) (h : Head) :
    (s.lost h).bsense = s.bsense ∧ (s.lost h).time = s.time ∧ (s.lost h).sched = s.sched ∧ (s.lost h).plan = s.plan
      ∧ (s.lost h).meter = s.meter ∧ (s.lost h).ramps = s.ramps ∧ (s.lost h).journal = s.journal
      ∧ (s.lost h).settings = s.settings := by
  simp [State.lost]

@[simp] theorem State.loseMember_keeps (s : State) (h : Head) :
    (s.loseMember h).bsense = s.bsense ∧ (s.loseMember h).time = s.time ∧ (s.loseMember h).sched = s.sched
      ∧ (s.loseMember h).plan = s.plan ∧ (s.loseMember h).meter = s.meter ∧ (s.loseMember h).ramps = s.ramps
      ∧ (s.loseMember h).journal = s.journal ∧ (s.loseMember h).settings = s.settings := by
  rcases s.loseMember_cases h with lose | lose <;> rw [lose] <;> simp

/-! ### The others of a frame that closes with a lost member -/

/-- A member entry whose undecided part an abort has decided. -/
def Member.aborted (n : Member) : Member := if n.outcome = none then { n with outcome := some .aborted } else n

section

variable {f : Frame} {g : Head}

theorem State.loseMember_frame (frame : s.frame = some f) : ∃ x : Four (Option Member), (s.loseMember h).frame =
    some { f with members := x, sync := if f.sync = .waiting ∨ f.sync = .window then .aborted else f.sync } := by
  by_cases before : f.sync = .waiting ∨ f.sync = .window
  · rw [if_pos before, State.loseMember_before frame before]
    obtain ⟨x, aborted⟩ := State.abortLocked_frame (State.lost_frame (h := h) frame)
    exact ⟨x, aborted⟩
  · obtain ⟨waiting, window⟩ := not_or.mp before
    rw [if_neg before, State.loseMember_after frame waiting window]
    exact ⟨_, State.lost_frame frame⟩

theorem State.loseMember_member_ne (frame : s.frame = some f) (other : g ≠ h)
    (decided : ∀ n : Member, f.members.get g = some n → n.outcome.isSome = true ∨ f.sync = .waiting ∨ f.sync = .window) :
    (s.loseMember h).member g = (s.member g).map Member.aborted := by
  by_cases before : f.sync = .waiting ∨ f.sync = .window
  · rw [State.loseMember_before frame before, State.abortLocked_member, State.undecided, State.lost_member_ne other]
    cases s.member g with
    | none => rfl
    | some n => cases outcome : n.outcome <;> simp [Member.aborted, Member.decided, outcome]
  · obtain ⟨waiting, window⟩ := not_or.mp before
    rw [State.loseMember_after frame waiting window, State.lost_member_ne other, State.member_some g frame]
    cases member : f.members.get g with
    | none => rfl
    | some n =>
      obtain ⟨o, outcome⟩ := Option.isSome_iff_exists.mp ((decided n member).resolve_right before)
      simp [Member.aborted, outcome]

theorem State.loseMember_head_ne (other : g ≠ h)
    (asleep : (s.member g).isSome = true → (s.heads.get g).state = .off ∨ (s.heads.get g).state = .standby) :
    (s.loseMember h).heads.get g = s.heads.get g := by
  obtain ⟨head, -⟩ := State.lost_ne (s := s) other
  rcases s.loseMember_cases h with lose | lose
  · rw [lose, head]
  · rw [lose, State.abortLocked_head, head]
    split
    next open_ =>
      obtain ⟨n, member, -⟩ := (State.undecided_iff _ _).mp open_
      rw [State.lost_member_ne other] at member
      exact if_pos (asleep (by rw [member]; rfl))
    next => rfl

theorem State.loseMember_awake (other : g ≠ h) (awake : s.Awake g) : (s.loseMember h).Awake g := by
  obtain ⟨on, busy⟩ := awake
  obtain ⟨head, -⟩ := State.lost_ne (s := s) other
  rcases s.loseMember_cases h with lose | lose
  · rw [lose, State.Awake, head]; exact ⟨on, busy⟩
  · rw [lose, State.Awake, State.abortLocked_head, head]
    split
    · rw [HeadSeq.aborted, if_neg (not_or.mpr ⟨on, busy⟩)]; exact ⟨nofun, nofun⟩
    · exact ⟨on, busy⟩

theorem State.loseMember_isSome (s : State) (h g : Head) : ((s.loseMember h).member g).isSome = (s.member g).isSome := by
  have lost : ((s.lost h).member g).isSome = (s.member g).isSome := by
    by_cases same : g = h
    · subst same; rw [State.lost_member_self, Option.isSome_map]
    · rw [State.lost_member_ne same]
  rcases s.loseMember_cases h with lose | lose
  · rw [lose, lost]
  · rw [lose, State.abortLocked_member]
    split
    · rw [Option.isSome_map, lost]
    · exact lost

theorem State.loseMember_finished_self (s : State) (h : Head) : (s.loseMember h).memberFinished h = true := by
  obtain ⟨member, head, -⟩ := s.loseMember_own h
  refine State.memberFinished_of_off ((State.undecided_congr h member).trans (s.lost_decided h)) ?_
  rw [head, State.lost_head]; rfl

theorem State.loseMember_finished (frame : s.frame = some f)
    (others : ∀ (g : Head) (n : Member), g ≠ h → f.members.get g = some n →
      ((s.heads.get g).state = .off ∨ (s.heads.get g).state = .standby)
        ∧ (n.outcome.isSome = true ∨ f.sync = .waiting ∨ f.sync = .window)) : (s.loseMember h).frameFinished = true := by
  refine State.frameFinished_iff.mpr fun g => ?_
  by_cases other : g = h
  · rw [other]; exact s.loseMember_finished_self h
  · have decided (n : Member) (member : f.members.get g = some n) := (others g n other member).2
    rw [State.memberFinished, State.loseMember_member_ne frame other decided, State.member_some g frame]
    cases member : f.members.get g with
    | none => rfl
    | some n =>
      obtain ⟨asleep, -⟩ := others g n other member
      rw [State.loseMember_head_ne other fun _ => asleep]
      have settled : n.aborted.outcome.isSome = true := by
        cases outcome : n.outcome <;> simp [Member.aborted, outcome]
      simpa [settled] using asleep

end

end

end Sys2Proof.Machine

namespace Sys2Proof.Proofs

open Sys2Proof.Machine

/-- Settles O9, effect by effect. -/
theorem sentMessageFreesItsPlace : Obligations.SentMessageFreesItsPlace := by
  unfold Obligations.SentMessageFreesItsPlace
  rintro s t p m rest runs queue open_ freed
  have run := exec_messageSent runs queue freed
  obtain ⟨frame, heads, energy⟩ : t.frame = s.frame ∧ t.heads = s.heads ∧ t.energy = s.energy := by
    subst freed; exact ⟨rfl, rfl, rfl⟩
  have still {u : State} (frame' : u.frame = t.frame) (heads' : u.heads = t.heads) (energy' : u.energy = t.energy) :
      u.finish s.energy.effective = u :=
    State.finish_still (frame'.trans frame) (heads'.trans heads) (by rw [energy', energy]) open_
  refine ⟨fun plain => ?_, fun q v speed => ?_, fun q st waiting reset station length freed' => ?_, fun h reset plain => ?_⟩
  · rw [run, plain]
    exact congrArg Host.Outcome.next (still rfl rfl rfl)
  · rw [run, speed]
    have effect : State.runEffects 32 (Option.toList (some (Effect.lineSpeed q v))) t = t.changeSpeed q v := rfl
    rw [effect, State.changeSpeed_eq]
    split
    · exact congrArg Host.Outcome.next (still rfl rfl rfl)
    · exact congrArg Host.Outcome.next (still rfl rfl rfl)
  · have rounds : waiting.length ≤ 31 := by
      have kept := List.length_filterMap_le (fun n : Message => n.effect) (t.ports.get q).queue
      rw [freed', List.length_map] at kept
      omega
    obtain ⟨rest', stations⟩ := State.resetPort_station (s := t) station
    have effect : State.runEffects 32 m.effect.toList t = (t.resetPort q).speedsChanged waiting := by
      rw [reset, Option.toList_some, State.runEffects_reset, State.waitingEffects, freed',
        State.runEffects_speeds waiting 31 _ rounds, State.takePortReset_station station]
    refine ⟨t.resetPort q, ?_, rest', State.resetPort_ports t q, stations, State.resetPort_flags t q⟩
    have ends := State.speedsChanged_rest waiting (t.resetPort q)
    rw [run, effect, still (by rw [ends, rest']) (by rw [ends, rest']) (by rw [ends, rest'])]
    rfl
  · have effect : State.runEffects 32 m.effect.toList t = t.resetHeadPort h := by
      rw [reset, Option.toList_some, State.runEffects_reset, State.waitingEffects_of_plain plain, State.takePortReset_head]
      rfl
    rw [effect] at run
    have member (k : Head) : t.member k = s.member k := State.member_congr k frame
    have undecided (k : Head) : t.undecided k = s.undecided k := State.undecided_congr k (member k)
    have cutMember (k : Head) (_ : k ≠ h) : (t.cutHead h).member k = s.member k := (t.cutHead_member h k).trans (member k)
    have cutState (k : Head) (other : k ≠ h) : ((t.cutHead h).heads.get k).state = (s.heads.get k).state := by
      rw [(State.cutHead_ne other).1, heads]
    have cutFlight (beside : s.HeldOpenBeside h) : (t.cutHead h).frame.isSome = true := by
      simpa [frame] using beside.flight
    have loseEnds (voltage : s.energy.voltageTier ≠ .halt) (unfinished : (t.loseMember h).frameFinished = false) :
        (t.loseMember h).finish s.energy.effective = t.loseMember h := by
      rw [← energy] at voltage ⊢
      obtain ⟨g, open_'⟩ : ∃ g : Head, (t.loseMember h).memberFinished g = false := by
        by_contra none
        refine Bool.false_ne_true (unfinished.symm.trans (State.frameFinished_iff.mpr fun g => ?_))
        simpa using not_exists.mp none g
      exact State.finish_unfinished (State.loseMember_tier voltage) (State.flight_of_unfinished open_') unfinished
    refine ⟨fun decided off => ?_, fun decided on voltage rests => ?_, fun idle on voltage => ?_, ?_, ?_, ?_, ?_⟩
    · have reset_ := State.resetHeadPort_off ((undecided h).trans decided) (by rwa [heads])
      have rest' := t.resetPort_headPort h
      rw [reset_, still (by rw [rest']) (by rw [rest']) (by rw [rest'])] at run
      exact ⟨_, run, rest', State.resetPort_ports t _, State.resetPort_flags t _⟩
    · have cut := State.resetHeadPort_powered ((undecided h).trans decided) (by rwa [heads])
      have on' : (t.heads.get h).state ≠ .off := by rwa [heads]
      have short := State.cutHead_ne_halt on' (by rwa [energy])
      obtain ⟨c, ends⟩ : ∃ c : Scheduler, (t.cutHead h).finish s.energy.effective = { t.cutHead h with sched := c } := by
        rcases rests with ⟨idle, held⟩ | beside
        · exact State.finish_rests (s := s) ⟨voltage, .inl ⟨idle, held⟩⟩ (by simpa using frame) (by rw [freed]; simp) short
            (fun unfinished => (Bool.false_ne_true (unfinished.symm.trans (State.frameFinished_of_none idle))).elim) _
        · exact ⟨_, State.finish_unfinished (.inr short) (cutFlight beside) (beside.congr cutMember cutState)⟩
      rw [cut, ends] at run
      obtain ⟨spent, stopped⟩ := State.cutHead_onTime on'
      obtain ⟨miss, exclusion⟩ := t.cutHead_head h
      refine ⟨_, run, t.cutHead_state h, t.cutHead_quiet h, t.cutHead_queue h, spent, stopped, ?_, ?_, ?_, fun g other => ?_,
        ?_, ?_, ?_, ?_⟩
      all_goals subst freed
      · exact State.cutHead_spend on'
      · exact exclusion
      · exact miss
      · exact State.cutHead_ne other
      all_goals simp
    · have undecided' : t.undecided h = false := by simp [State.undecided, State.member_eq, frame, idle]
      have on' : (t.heads.get h).state ≠ .off := by rwa [heads]
      rw [State.resetHeadPort_powered undecided' on'] at run
      obtain ⟨spent, stopped⟩ := State.cutHead_onTime on'
      refine ⟨t.cutHead h, _, run, State.finish_settles (by simpa [frame] using idle), t.cutHead_rest h, t.cutHead_state h,
        t.cutHead_quiet h, t.cutHead_queue h, spent, stopped, ?_, ?_, fun g other => ?_⟩
      · have spend := State.cutHead_spend on'
        subst freed
        exact spend
      · have effective := State.cutHead_effective on'
        subst freed
        rw [effective, floorOf_tier]
        rfl
      · have kept := State.cutHead_ne (s := t) other
        subst freed
        exact kept
    · rintro g open_' voltage other memberOf on busy
      rw [State.resetHeadPort_undecided ((undecided h).trans open_')] at run
      rw [State.takePortReset_head, State.resetHeadPort_undecided ((undecided h).trans open_'), run]
      have awake : t.Awake g := by rw [State.Awake, heads]; exact ⟨on, busy⟩
      have there : ((t.loseMember h).member g).isSome = true := by rw [State.loseMember_isSome, member]; exact memberOf
      exact congrArg Host.Outcome.next (loseEnds voltage
        (State.unfinished_of_awake there (State.loseMember_awake other awake)))
    · rintro f open_' voltage flight waiting window beside
      have lose := State.loseMember_after (h := h) (frame.trans flight) waiting window
      rw [State.resetHeadPort_undecided ((undecided h).trans open_')] at run
      rw [State.takePortReset_head, State.resetHeadPort_undecided ((undecided h).trans open_'), run]
      refine congrArg Host.Outcome.next (loseEnds voltage (beside.congr (fun k other => ?_) fun k other => ?_))
      · rw [lose, State.lost_member_ne other, member]
      · rw [lose, (State.lost_ne other).1, heads]
    · rintro f n voltage flight memberOf outcome others
      have flight' : t.frame = some f := frame.trans flight
      have entry : t.member h = some n := by rw [State.member_some h flight', memberOf]
      have open_' : t.undecided h = true := (State.undecided_iff _ _).mpr ⟨n, entry, outcome⟩
      have others' : ∀ (g : Head) (n : Member), g ≠ h → f.members.get g = some n →
          ((t.heads.get g).state = .off ∨ (t.heads.get g).state = .standby)
            ∧ (n.outcome.isSome = true ∨ f.sync = .waiting ∨ f.sync = .window) := by rw [heads]; exact others
      obtain ⟨x, lostFrame⟩ := State.loseMember_frame (h := h) flight'
      have tier := State.loseMember_tier (s := t) (h := h) (by rwa [energy])
      have closed := State.finish_closes tier lostFrame (State.loseMember_finished flight' others')
      rw [energy] at closed
      rw [State.resetHeadPort_undecided open_', closed] at run
      obtain ⟨own, head, triggers, energy', ports⟩ := t.loseMember_own h
      refine ⟨t.loseMember h, _, run, lostFrame, rfl, ?_, fun g other => ?_, by simp [freed], by simp [freed],
        by simp [freed], by simp [freed], by simp [freed], by simp [freed], by simp [freed], by simp [freed], ?_, ?_, ?_, ?_,
        ?_, fun on => ?_, fun g other => ?_⟩
      · have x_own := State.member_some h lostFrame
        rw [own, State.lost_member_self, entry] at x_own
        rw [← x_own]
        simp [Member.decided, outcome]
      · have x_other := State.member_some g lostFrame
        rw [State.loseMember_member_ne flight' other fun n there => (others' g n other there).2,
          State.member_some g flight'] at x_other
        exact x_other.symm
      · rw [head, State.lost_head]; rfl
      · rw [triggers]; exact State.railOff_quiet _ h
      · rw [head, State.lost_head, heads]; rfl
      · rw [head, State.lost_head, heads]; rfl
      · rw [ports]; exact State.railOff_queue _ h
      · rw [energy']
        exact State.railOff_onTime (State.rail_of_ne_off (by simpa [heads] using on))
      · rw [State.loseMember_head_ne other, heads]
        intro there
        obtain ⟨n, there⟩ := Option.isSome_iff_exists.mp there
        exact (others' g n other ((State.member_some g flight').symm.trans there)).1
    · rintro f decided on voltage flight closes
      have on' : (t.heads.get h).state ≠ .off := by rwa [heads]
      have decided' : (t.cutHead h).undecided h = false := (State.undecided_congr h (t.cutHead_member h h)).trans
        ((undecided h).trans decided)
      have frame' : (t.cutHead h).frame = some f := by simpa [frame] using flight
      rw [State.resetHeadPort_powered ((undecided h).trans decided) on', State.finish_closes
        (.inr (State.cutHead_ne_halt on' (by rwa [energy]))) frame' (closes.congr
          (State.memberFinished_of_off decided' (t.cutHead_state h)) cutMember cutState)] at run
      obtain ⟨miss, exclusion⟩ := t.cutHead_head h
      rw [heads] at miss exclusion
      refine ⟨t.cutHead h, run, frame', ?_, ?_, ?_, ?_, ?_, ?_, ?_, ?_, t.cutHead_state h, t.cutHead_quiet h, miss, exclusion,
        t.cutHead_queue h, (State.cutHead_onTime on').1, fun g other => by rw [(State.cutHead_ne other).1, heads]⟩
      all_goals simp [freed]

end Sys2Proof.Proofs

/-! ## HALT entry, and the battery measurement -/

namespace Sys2Proof.Machine

section

variable {s : State} {h : Head} {f : Frame}

/-- A judgement of the tier, in one equation. -/
theorem State.judgeTier_eq (s : State) : s.judgeTier = { s with
    energy := { s.energy with effective := worse s.energy.voltageTier s.energy.floor.tier }
    stations := if worse s.energy.voltageTier s.energy.floor.tier = s.energy.effective then s.stations
      else ⟨{ s.stations.ul with flags := s.stations.ul.flags ||| 16#10 },
        { s.stations.sv with flags := s.stations.sv.flags ||| 16#10 }⟩ } := by
  unfold State.judgeTier
  by_cases same : worse s.energy.voltageTier s.energy.floor.tier = s.energy.effective
  · simp only [same, if_true]
  · simp only [same, if_false]; rfl

/-! ### HALT stays HALT -/

theorem worse_halt (t : Tier) : worse .halt t = .halt := by cases t <;> rfl

theorem worse_floor_halt {a : Tier} {b : BudgetFloor} (halt : worse a b.tier = .halt) : a = .halt := by
  by_contra short
  exact worse_ne_halt short halt

/-- Both tiers are HALT. -/
def State.Halted (s : State) : Prop := s.energy.voltageTier = .halt ∧ s.energy.effective = .halt

theorem State.Halted.railOff (halted : s.Halted) (h : Head) : (s.railOff h).Halted := by
  obtain ⟨voltage, effective⟩ := halted
  refine ⟨(State.railOff_voltage s h).trans voltage, ?_⟩
  cases on : s.rail h with
  | true => rw [State.railOff_effective on, voltage, worse_halt]
  | false => rw [State.railOff_energy_of_off (by simpa [State.rail] using on), effective]

theorem State.Halted.of_energy {t : State} (halted : s.Halted) (same : t.energy = s.energy) : t.Halted := by
  rwa [State.Halted, same]

theorem State.Halted.haltHead (halted : s.Halted) (h : Head) : (State.haltHead h s).Halted := by
  rw [State.haltHead_eq, State.cutHead]
  exact (halted.of_energy (by simp)).railOff h

theorem State.Halted.haltEntry (halted : s.Halted) : s.haltEntry.Halted := by
  have begun : ({ s with sched := s.sched.noDue } : State).Halted := halted
  exact ((((begun.haltHead .h0).haltHead .h1).haltHead .h2).haltHead .h3).of_energy
    (by simp [State.haltEntry, forHeads])

/-! ### What HALT entry leaves -/

theorem State.haltHead_trigger (s : State) (h k : Head) :
    ((State.haltHead h s).triggers.get k) = if k = h then (State.haltHead h s).triggers.get h else s.triggers.get k := by
  split
  next same => rw [same]
  next other => rw [State.haltHead_eq, (State.cutHead_ne other).2]; simp

theorem State.haltEntry_quiet (s : State) (h : Head) : (s.haltEntry.triggers.get h).Quiet := by
  have quiet (k : Head) (t : State) : ((State.haltHead k t).triggers.get k).Quiet := State.railOff_quiet _ k
  have kept : s.haltEntry.triggers = (forHeads State.haltHead { s with sched := s.sched.noDue }).triggers := by
    simp [State.haltEntry]
  rw [kept]
  refine forHeads_at h (before := fun _ => True) (after := fun t => (t.triggers.get h).Quiet) trivial
    (fun _ _ _ _ => trivial) (fun t _ => quiet h t) fun k t other still => ?_
  rw [State.haltHead_trigger, if_neg other.symm]
  exact still

theorem State.haltEntry_sched (s : State) : s.haltEntry.sched = s.sched.noDue := by
  simp [State.haltEntry, forHeads]

theorem State.haltHead_events (h : Head) (s : State) : s.EventsKept (State.haltHead h s) := by
  have marked (t : State) : t.EventsKept (t.storageApplied h) :=
    .ite (fun _ => t.applyStorageMark_events h) fun _ => .refl t
  exact ((s.decideEntry_events h .powerCut).trans (marked _)).trans (State.railOff_events _ h)

theorem State.haltEntry_events (s : State) : s.EventsKept s.haltEntry := by
  have begun : s.EventsKept { s with sched := s.sched.noDue } := .of_eq rfl
  exact (begun.trans (State.EventsKept.forHeads State.haltHead_events _)).trans (.of_eq (by simp [State.haltEntry]))

theorem State.haltHead_member (s : State) (h k : Head) : (State.haltHead h s).member k =
    if k = h then (s.member h).map (Member.decided .powerCut) else s.member k := by
  rw [State.haltHead_eq, State.cutHead_member]
  split
  next same => rw [same, State.decideEntry_member_self]
  next other => rw [State.decideEntry_member_ne _ _ other]

theorem State.haltHead_frameOf (frame : s.frame = some f) :
    ∃ m : Four (Option Member), (State.haltHead h s).frame = some { f with members := m } :=
  ⟨_, by rw [State.haltHead_frame, State.decideEntry_frame, frame]; rfl⟩

theorem Frame.judgeOutcome_halted (f : Frame) :
    f.haltAbort.judgeOutcome = if f.sync = .abandoned then .abandonedSync else .aborted := by
  unfold Frame.judgeOutcome Frame.haltAbort
  cases f.sync <;> rfl

/-- The frame that HALT entry leaves of one: aborted, its undecided members POWER_CUT. -/
structure Frame.CutTo (f g : Frame) : Prop where
  sequence : g.sequence = f.sequence
  due : g.due = f.due
  forced : g.forced = f.forced
  resumed : g.resumedInFlight = f.resumedInFlight
  outcome : g.judgeOutcome = if f.sync = .abandoned then .abandonedSync else .aborted
  members : ∀ h : Head, g.members.get h = (f.members.get h).map (Member.decided .powerCut)

theorem State.haltEntry_cuts (frame : s.frame = some f) : ∃ g : Frame, s.haltEntry.frame = some g ∧ f.CutTo g := by
  obtain ⟨m0, h0⟩ := State.haltHead_frameOf (h := .h0) (s := { s with sched := s.sched.noDue }) frame
  obtain ⟨m1, h1⟩ := State.haltHead_frameOf (h := .h1) h0
  obtain ⟨m2, h2⟩ := State.haltHead_frameOf (h := .h2) h1
  obtain ⟨m3, h3⟩ := State.haltHead_frameOf (h := .h3) h2
  refine ⟨({ f with members := m3 } : Frame).haltAbort, by simp [State.haltEntry, forHeads, h3],
    ⟨rfl, rfl, rfl, rfl, Frame.judgeOutcome_halted _, fun h => ?_⟩⟩
  have own := State.member_some h h3
  have start : ({ s with sched := s.sched.noDue } : State).member h = f.members.get h := State.member_some h frame
  refine own.symm.trans ?_
  simp only [State.haltHead_member]
  cases h <;> simp [start]

theorem State.closeIfFinished_of_finished (frame : s.frame = some f) (finished : s.frameFinished = true) :
    s.closeIfFinished = s.closeFrame f := by
  rw [State.closeIfFinished, frame]
  exact if_pos finished

/-- HALT entry decides every member and turns every head off. -/
theorem State.haltEntry_finished {g : Frame} (aborted : s.haltEntry.frame = some g) (cut : f.CutTo g) :
    s.haltEntry.frameFinished = true := by
  refine State.frameFinished_iff.mpr fun h => State.memberFinished_of_off ?_ (s.haltEntry_off h)
  rw [State.undecided, State.member_some h aborted, cut.members]
  cases f.members.get h with
  | none => rfl
  | some m => cases outcome : m.outcome <;> simp [Member.decided, outcome]

/-! ### Event flags through a close -/

theorem State.accountMember_events (h : Head) (s : State) : s.EventsKept (State.accountMember h s) :=
  .ite (fun _ => s.account_events h) fun _ => .refl s

theorem State.closeMeasured_events (s : State) : s.EventsKept s.closeMeasured :=
  (State.EventsKept.forHeads State.accountMember_events s).trans (State.measure_events _)

theorem State.planClose_events (s : State) (g : Frame) : s.EventsKept (s.planClose g) := by
  have counted : s.EventsKept (s.countFrame g) := .of_eq (by simp)
  unfold State.planClose
  dsimp only
  split
  · exact counted.trans (State.swapBanks_events _ _)
  · split
    · exact counted.trans (State.enterPhase_events _ _)
    · exact counted

theorem State.judgeFill_events (s : State) : s.EventsKept s.judgeFill := by
  rw [State.judgeFill_eq]
  exact .ite (fun _ => (State.EventsKept.of_eq rfl).trans (State.raiseBoth_events _ _)) fun _ => .of_eq rfl

theorem State.journalClose_events (s : State) (g : Frame) : s.EventsKept (s.journalClose g) := by
  have ring : s.EventsKept { s with journal := { s.journal with ring := appendRing s.journal.ring (s.recordOf g) } } :=
    .of_eq rfl
  have appended : s.EventsKept (s.appended g) := ring.trans (State.judgeFill_events _)
  exact (appended.trans (State.deliver_events _ _ .ul)).trans (State.deliver_events _ _ .sv)

theorem State.closeFrame_settled_events {g : Frame} (noEntry : s.ClosesWithoutEntry g)
    (without : (s.closedUp g).noSchedule = true) : s.EventsKept (s.closeFrame g) := by
  have stations : (s.closeFrame g).stations =
      (((s.closeBegun g).closeMeasured.planClose g.concluded).journalClose g.concluded).stations := by
    rw [State.closeFrame_settled noEntry without]
  have begun : s.EventsKept (s.closeBegun g) := .of_eq rfl
  exact (((begun.trans (State.closeMeasured_events _)).trans (State.planClose_events _ _)).trans
    (State.journalClose_events _ _)).trans (.of_eq stations)

/-! ### A close without a schedule, field by field -/

/-- The record of a close. -/
def State.closeRecord (s : State) (g : Frame) : JournalRecord :=
  ((s.closeBegun g).closeMeasured.planClose g.concluded).recordOf g.concluded

section

variable {g : Frame}

theorem State.closeRecord_heads (s : State) (g : Frame) (h : Head) :
    (s.closeRecord g).heads.get h = (g.members.get h).map entryOf := recordOf_heads _ _ h

theorem State.closeRecord_tier (s : State) (g : Frame) :
    (s.closeRecord g).tierAtClose = (s.closeBegun g).closeMeasured.energy.effective := by
  simp [State.closeRecord, State.recordOf]

theorem State.closeRecord_battery (s : State) (g : Frame) : (s.closeRecord g).battery = min s.bsense.level 16383 := by
  obtain ⟨reading, -⟩ := (s.closeBegun g).closeMeasured_reading
  simpa [State.closeRecord, State.recordOf, State.closeBegun] using reading

/-- What a close without a schedule leaves. -/
structure State.SettledClose (s t : State) (g : Frame) : Prop where
  frame : t.frame = none
  armTimer : t.armTimer = none
  sched : t.sched = (s.sched.afterFrame g).noDue
  due : t.sched.due = none
  openTime : t.sched.openTime = none
  ring : t.journal.ring =
    (if 256 ≤ s.journal.ring.length then s.journal.ring.drop 1 else s.journal.ring) ++ [s.closeRecord g]
  plan : t.plan = ((s.closeBegun g).closeMeasured.planClose g.concluded).plan

theorem State.closeFrame_settled_rest (noEntry : s.ClosesWithoutEntry g) (without : (s.closedUp g).noSchedule = true) :
    s.SettledClose (s.closeFrame g) g := by
  rw [State.closeFrame_settled noEntry without]
  have journal : ((s.closeBegun g).closeMeasured.planClose g.concluded).journal = s.journal := by simp [State.closeBegun]
  refine ⟨rfl, by simp [State.closeBegun], rfl, rfl, rfl, ?_, by simp⟩
  rw [State.journalClose_ring, journal]
  rfl

theorem Scheduler.afterFrame_own (c : Scheduler) (own : g.forced = false) (alone : g.resumedInFlight = false) :
    (c.afterFrame g).noDue = { c with anchor := some ⟨g.due, .frame⟩, lastDue := none, due := none, openTime := none } := by
  simp [Scheduler.afterFrame, own, alone, Scheduler.setAnchor, Scheduler.noDue]

theorem Scheduler.afterFrame_kept (c : Scheduler) (kept : g.forced = true ∨ g.resumedInFlight = true) : c.afterFrame g = c := by
  rcases kept with h | h <;> simp [Scheduler.afterFrame, h]

end

/-! ### The close of a frame that HALT has aborted -/

/-- A HALTED part that stays halted by the reading of the close. -/
theorem State.Halted.closes {g : Frame} (halted : s.Halted)
    (stays : judgeVoltage s.settings .halt (min s.bsense.level 16383) = .halt) :
    s.ClosesWithoutEntry g ∧ (s.closedUp g).noSchedule = true
      ∧ (s.closeBegun g).closeMeasured.energy.effective = .halt := by
  obtain ⟨voltage, effective⟩ := halted
  have noEntry : s.ClosesWithoutEntry g := .inr effective
  obtain ⟨-, -, tier, judged⟩ := (s.closeBegun g).closeMeasured_reading
  have halt : (s.closeBegun g).closeMeasured.energy.effective = .halt := by
    rw [judged, tier]
    have stays' : judgeVoltage (s.closeBegun g).settings (s.closeBegun g).energy.voltageTier
        (min (s.closeBegun g).bsense.level 16383) = .halt := by
      simpa only [State.closeBegun, voltage] using stays
    rw [stays', worse_halt]
  refine ⟨noEntry, ?_, halt⟩
  have closed : (s.closedUp g).energy.effective = .halt := by
    rw [State.closedUp_eq noEntry]
    simpa using halt
  simp [State.noSchedule, closed]

/-- A frame that HALT has aborted counts against no phase. -/
theorem State.planClose_aborted {g : Frame} {o : FrameOutcome} (settled : s.plan.swapPending = none) (outcome : g.outcome = some o)
    (ok : o ≠ .ok) (partially : o ≠ .partially) : s.planClose g = s := by
  refine State.planClose_of_not settled ?_
  rw [← Bool.not_eq_true, State.frameCounts_iff outcome]
  rintro ⟨⟨done, -⟩, -⟩
  exact done.elim ok partially

theorem entryOf_decided (m : Member) (o : EntryOutcome) :
    (entryOf (Member.decided o m)).outcome = m.outcome.getD o ∧ (entryOf (Member.decided o m)).ticket = m.ticket := by
  cases outcome : m.outcome <;> simp [entryOf, Member.decided, outcome]

/-! ### The measurement -/

theorem exec_measurementTimerExpiry {shown : List Nat} {input : BSense} {tier : Tier}
    (shows : input = match shown with | [] => s.bsense | w :: rest => ⟨w, rest⟩) (runs : s.runs = true)
    (set : s.energy.measureTimer.isSome = true)
    (judged : tier = judgeVoltage s.settings s.energy.voltageTier (min input.level 16383)) :
    exec (.measurementTimerExpiry shown) s = .next (({ s with
      bsense := input.advance
      energy := { s.energy with
        reading := min input.level 16383, readingTime := s.time.count, voltageTier := tier, measureTimer := some 60000
        effective := worse tier s.energy.floor.tier }
      stations := if worse tier s.energy.floor.tier = s.energy.effective then s.stations
        else ⟨{ s.stations.ul with flags := s.stations.ul.flags ||| 16#10 },
          { s.stations.sv with flags := s.stations.sv.flags ||| 16#10 }⟩ } : State).finish s.energy.effective) := by
  obtain rfl : input = s.bsense.present shown := by rw [shows]; cases shown <;> rfl
  refine congrArg Host.Outcome.next ((State.whileRunning_of_runs runs _).trans ((if_pos set).trans ?_))
  rw [State.measure, State.judgeTier_eq]
  subst judged
  rfl

end

end Sys2Proof.Machine

namespace Sys2Proof.Proofs

open Sys2Proof.Machine

/-- Settles O50: the state that the measurement leaves, and then where its tier takes the event. -/
theorem measurementTakesAReading : Obligations.MeasurementTakesAReading := by
  unfold Obligations.MeasurementTakesAReading
  rintro s u shown input v tier shows runs set rfl judged left
  have run := exec_measurementTimerExpiry shows runs set judged
  rw [← left] at run
  obtain ⟨frame, heads, effective⟩ : u.frame = s.frame ∧ u.heads = s.heads
      ∧ u.energy.effective = worse tier s.energy.floor.tier := by rw [left]; exact ⟨rfl, rfl, rfl⟩
  have finished := State.frameFinished_congr frame heads
  refine ⟨fun same open_ => ?_, fun differs short => ⟨fun idle ahead => ?_, fun flight open_ => ?_⟩, fun differs halt => ?_⟩
  · rw [run, State.finish_same (effective.trans same) (by rwa [frame, finished])]
  · obtain ⟨-, computes⟩ := State.finish_settles (s := s) (frame.trans idle)
    rw [run, computes (by rwa [effective]) (by rwa [effective]) ahead]
  · rw [run, State.finish_unfinished (.inr (by rwa [effective])) (by rwa [frame]) (finished.trans open_)]
  · have halted : u.Halted := ⟨by rw [left]; exact worse_floor_halt halt, effective.trans halt⟩
    have raised (st : Station) : hasEvent (u.stations.get st).flags .tierChanged = true := by
      rw [left]
      simp only [if_neg differs]
      cases st <;> exact hasEvent_or_mask _ .tierChanged
    obtain ⟨-, halt'⟩ := halted.haltEntry
    have follow : u.followTier s.energy.effective = u.haltEntry := by
      rw [State.followTier, if_neg (by rwa [effective]), if_pos (effective.trans halt)]
    refine ⟨fun idle => ?_, fun f flight stays => ?_⟩
    · rw [State.finish_of_none (frame.trans idle), follow] at run
      refine ⟨_, run, halt', ?_, ?_, ?_, ?_, fun h => ⟨u.haltEntry_off h, u.haltEntry_quiet h⟩,
        fun st => u.haltEntry_events st _ (raised st)⟩
      all_goals
        rw [State.haltEntry_sched, left]
        rfl
    · obtain ⟨g, aborted, cut⟩ := State.haltEntry_cuts (frame.trans flight)
      have bsense : u.haltEntry.bsense = input.advance := by simp [left]
      obtain ⟨noEntry, without, close⟩ := halted.haltEntry.closes (g := g)
        (by rw [bsense]; simpa [left] using stays)
      rw [State.finish, follow, State.closeIfFinished_of_finished aborted (State.haltEntry_finished aborted cut)] at run
      obtain ⟨heads', triggers, energy⟩ := State.closeFrame_settled_keeps noEntry without
      have closed := State.closeFrame_settled_rest noEntry without
      refine ⟨u.haltEntry.closeFrame g, u.haltEntry.closeRecord g, run, by rw [energy]; exact close, closed.frame,
        closed.armTimer, closed.due, closed.openTime, ?_, cut.sequence, cut.outcome, ?_, ?_, fun h m member => ?_,
        fun own alone => ?_, fun kept => ?_, fun settled => ?_, by simp [left], fun h => ?_, fun st => ?_⟩
      · rw [closed.ring]; simp [left]
      · exact (u.haltEntry.closeRecord_tier g).trans close
      · rw [State.closeRecord_battery, bsense]
      · refine ⟨entryOf (Member.decided .powerCut m), ?_, entryOf_decided m _⟩
        rw [State.closeRecord_heads, cut.members, member]; rfl
      · rw [closed.sched, ← cut.due]
        exact congrArg Scheduler.anchor (Scheduler.afterFrame_own _ (cut.forced.trans own) (cut.resumed.trans alone))
      · rw [closed.sched, Scheduler.afterFrame_kept _ (by rwa [cut.forced, cut.resumed])]
        simp [State.haltEntry_sched, left, Scheduler.noDue]
      · have plan : (u.haltEntry.closeBegun g).closeMeasured.plan = s.plan := by simp [State.closeBegun, left]
        rw [closed.plan, State.planClose_aborted (by rwa [plan]) rfl, plan]
        all_goals
          rw [cut.outcome]
          split <;> exact nofun
      · rw [heads', triggers]; exact ⟨u.haltEntry_off h, u.haltEntry_quiet h⟩
      · exact State.closeFrame_settled_events noEntry without st _ (u.haltEntry_events st _ (raised st))

end Sys2Proof.Proofs

/-! ## A warm start -/

namespace Sys2Proof.Machine

section

variable {s : State} {h : Head}

/-! ### Step 2: the on-times -/

theorem State.judgeTier_enables (s : State) (st : Station) :
    (s.judgeTier.stations.get st).enables = (s.stations.get st).enables := by
  rw [State.judgeTier_eq]
  dsimp only
  split
  · rfl
  · cases st <;> rfl

theorem State.account_enables (s : State) (h : Head) (st : Station) :
    ((s.account h).stations.get st).enables = (s.stations.get st).enables :=
  (State.judgeTier_enables _ st).trans (by simp)

@[simp] theorem State.settleOnTime_keeps (h : Head) (s : State) :
    (State.settleOnTime h s).supply = s.supply ∧ (State.settleOnTime h s).bsense = s.bsense
      ∧ (State.settleOnTime h s).time = s.time ∧ (State.settleOnTime h s).sched = s.sched
      ∧ (State.settleOnTime h s).plan = s.plan ∧ (State.settleOnTime h s).meter = s.meter
      ∧ (State.settleOnTime h s).ramps = s.ramps ∧ (State.settleOnTime h s).frame = s.frame
      ∧ (State.settleOnTime h s).triggers = s.triggers ∧ (State.settleOnTime h s).heads = s.heads
      ∧ (State.settleOnTime h s).journal = s.journal ∧ (State.settleOnTime h s).ports = s.ports
      ∧ (State.settleOnTime h s).windows = s.windows ∧ (State.settleOnTime h s).flags = s.flags
      ∧ (State.settleOnTime h s).settings = s.settings := by
  simp only [State.settleOnTime]
  split <;> simp

theorem State.settleOnTime_voltage (h : Head) (s : State) :
    (State.settleOnTime h s).energy.voltageTier = s.energy.voltageTier := by
  simp only [State.settleOnTime, State.modOnTime]
  split
  · rw [State.account, State.judgeTier_energy]; simp [State.judgeFloor, State.addCharge, State.modOnTime]
  · rfl

theorem State.settleOnTime_onTime (h k : Head) (s : State) : (State.settleOnTime h s).energy.onTime.get k =
    if k = h then ⟨0, false⟩ else s.energy.onTime.get k := by
  simp only [State.settleOnTime, State.modOnTime, Four.get_set]
  split
  · next same =>
    split
    · rw [State.account_onTime, if_pos rfl]
    · next zero => simp_all
  · next other =>
    split
    · rw [State.account_onTime, if_neg other]
    · rfl

theorem State.settleOnTime_events (h : Head) (s : State) : s.EventsKept (State.settleOnTime h s) :=
  (State.EventsKept.ite (fun _ => s.account_events h) fun _ => .refl s).trans (.of_eq rfl)

theorem State.settleOnTime_enables (h : Head) (s : State) (st : Station) :
    ((State.settleOnTime h s).stations.get st).enables = (s.stations.get st).enables := by
  simp only [State.settleOnTime, State.modOnTime]
  split
  · exact s.account_enables h st
  · rfl

/-- Steps 1 and 2 of a warm start. -/
def State.warmSettled (s : State) (shown : List Nat) : State :=
  forHeads State.settleOnTime ({ s with bsense := s.bsense.present shown } : State).warmValues

theorem State.warmStarted_eq (s : State) (shown : List Nat) : s.warmStarted shown =
    (s.warmSettled shown).countMissed.closeInterrupted.resumeEnergy.resumeMeter.resumeSchedule := rfl

theorem State.warmSettled_keeps (s : State) (shown : List Nat) :
    (s.warmSettled shown).supply = ⟨true, false⟩ ∧ (s.warmSettled shown).bsense = s.bsense.present shown
      ∧ (s.warmSettled shown).time = { s.time with sinceSet := 0 } ∧ (s.warmSettled shown).sched = s.sched
      ∧ (s.warmSettled shown).plan = s.plan ∧ (s.warmSettled shown).meter = Meter.fresh
      ∧ (s.warmSettled shown).ramps = s.ramps ∧ (s.warmSettled shown).frame = s.frame
      ∧ (s.warmSettled shown).journal = s.journal ∧ (s.warmSettled shown).windows = s.windows
      ∧ (s.warmSettled shown).flags = Eight.all none ∧ (s.warmSettled shown).settings = s.settings
      ∧ (s.warmSettled shown).energy.voltageTier = s.energy.voltageTier := by
  simp only [State.warmSettled, forHeads, State.settleOnTime_keeps, State.settleOnTime_voltage]
  exact ⟨rfl, rfl, rfl, rfl, rfl, rfl, rfl, rfl, rfl, rfl, rfl, rfl, rfl⟩

theorem State.warmSettled_head (s : State) (shown : List Nat) (h : Head) :
    (s.warmSettled shown).heads.get h = ((s.heads.get h).enter .off).warm
      ∧ (s.warmSettled shown).triggers.get h = inactiveTrigger (s.settings.head.get h).polarity
      ∧ (s.warmSettled shown).energy.onTime.get h = ⟨0, false⟩ := by
  simp only [State.warmSettled, forHeads, State.settleOnTime_keeps, State.settleOnTime_onTime]
  cases h <;> exact ⟨rfl, rfl, rfl⟩

theorem State.warmSettled_port (s : State) (shown : List Nat) (q : Port) :
    (s.warmSettled shown).ports.get q = ((s.ports.get q).dark).warm (s.settings.port.get q).lineSpeed := by
  simp only [State.warmSettled, forHeads, State.settleOnTime_keeps]
  cases q <;> rfl

theorem State.warmSettled_station (s : State) (shown : List Nat) (st : Station) :
    hasEvent ((s.warmSettled shown).stations.get st).flags .resumed = true
      ∧ ((s.warmSettled shown).stations.get st).enables = (s.stations.get st).enables := by
  have marked : (({ s with bsense := s.bsense.present shown } : State).warmValues.stations.get st).flags = Event.resumed.mask := by
    cases st <;> rfl
  refine ⟨State.EventsKept.forHeads State.settleOnTime_events _ st _ ?_, ?_⟩
  · rw [marked]; decide
  · simp only [State.warmSettled, forHeads, State.settleOnTime_enables]
    cases st <;> rfl

/-! ### Step 3: the due times missed -/

theorem State.warmSettled_missed (s : State) (shown : List Nat) (time : Int) :
    (s.warmSettled shown).missedDueTimes time = s.missedDueTimes time := by
  obtain ⟨-, -, -, sched, -, -, -, frame, -⟩ := s.warmSettled_keeps shown
  rw [State.missedDueTimes, State.missedDueTimes, sched, frame]

theorem State.countMissed_held (held : s.sched.run = .held) : s.countMissed = s := by
  rw [State.countMissed, held]

theorem State.countMissed_running (running : s.sched.run = .running) :
    s.countMissed = { s with sched := s.sched.addSkipped (s.missedDueTimes (s.now + 5)) } := by
  rw [State.countMissed, running]; rfl

/-- What steps 1 to 3 leave of a RUNNING part. -/
structure State.WarmCounted (s : State) (shown : List Nat) (v : State) : Prop where
  frame : v.frame = s.frame
  run : v.sched.run = .running
  skipped : v.sched.skipped = min (s.sched.skipped + s.missedDueTimes (s.time.count + 5)) 65535
  now : v.now = s.time.count
  plan : v.plan = s.plan
  journal : v.journal = s.journal
  ramps : v.ramps = s.ramps
  settings : v.settings = s.settings
  voltage : v.energy.voltageTier = s.energy.voltageTier
  bsense : v.bsense = s.bsense.present shown

theorem State.warmSettled_counted (running : s.sched.run = .running) (shown : List Nat) :
    s.WarmCounted shown (s.warmSettled shown).countMissed := by
  have missed := s.warmSettled_missed shown (s.time.count + 5)
  obtain ⟨-, bsense, time, sched, plan, -, ramps, frame, journal, -, -, settings, voltage⟩ := s.warmSettled_keeps shown
  generalize s.warmSettled shown = w at *
  have running' : w.sched.run = .running := by rw [sched, running]
  have now : w.now = s.time.count := by rw [State.now, time]
  rw [State.countMissed_running running', now, missed]
  exact ⟨frame, running', by rw [← sched]; rfl, now, plan, journal, ramps, settings, voltage, bsense⟩

/-- A ceiling quotient counts the multiples below a number. -/
theorem lt_ceilDiv_iff {a b : Int} (pos : 0 < b) (j : Int) : j < ceilDiv a b ↔ j * b < a := by
  obtain ⟨reaches, least⟩ := ceilDiv_least a b pos
  refine ⟨least j, fun below => lt_of_not_ge fun past => ?_⟩
  have := Int.mul_le_mul_of_nonneg_right past pos.le
  omega

theorem State.missed_of_noDue (idle : s.frame = none) (due : s.sched.due = none) (time : Int) : s.missedDueTimes time = 0 := by
  rw [State.missedDueTimes, idle, due]

theorem State.lt_missed_of_due (idle : s.frame = none) {d : Int} (due : s.sched.due = some d) (interval : 1 ≤ s.sched.interval)
    (time : Int) (j : Nat) : j < s.missedDueTimes time ↔ d + j * s.sched.interval < time := by
  have counted := lt_ceilDiv_iff (a := time - d) (b := s.sched.interval) (by omega) j
  rw [State.missedDueTimes, idle, due]
  dsimp only
  omega

theorem State.lt_missed_of_flight {f : Frame} (flight : s.frame = some f) (interval : 1 ≤ s.sched.interval) (time : Int) (j : Nat) :
    j < s.missedDueTimes time ↔ f.due + (j + 1) * s.sched.interval < time := by
  have counted := lt_ceilDiv_iff (a := time - f.due) (b := s.sched.interval) (by omega) (j + 1)
  rw [State.missedDueTimes, flight]
  dsimp only
  omega

/-! ### Step 4: the interrupted frame -/

theorem State.closeInterrupted_none (idle : s.frame = none) : s.closeInterrupted = s := by
  rw [State.closeInterrupted, idle]

/-- The state whose interrupted frame the Energy Monitor takes up. -/
def State.interruption (s : State) (f : Frame) : State := { s with
  sched := { s.sched with skipped := 0 }, frame := some (f.losePower s.sched.skipped), armTimer := none }

/-- The record of a frame that lost its power. -/
def State.lostRecord (s : State) (f : Frame) : JournalRecord :=
  ((s.interruption f).energyClose.planClose (f.losePower s.sched.skipped)).recordOf (f.losePower s.sched.skipped)

theorem State.lostRecord_head (s : State) {f : Frame} {m : Member} (member : f.members.get h = some m) :
    ∃ e : HeadEntry, (s.lostRecord f).heads.get h = some e ∧ e.outcome = m.outcome.getD .lostPower ∧ e.ticket = m.ticket := by
  have lost : (f.losePower s.sched.skipped).members.get h = some (Member.losePower m) := by
    have kept : (f.losePower s.sched.skipped).members.get h = (f.members.get h).map Member.losePower := by cases h <;> rfl
    rw [kept, member]; rfl
  refine ⟨entryOf (Member.losePower m), ?_, ?_⟩
  · rw [State.lostRecord, recordOf_heads, lost]; rfl
  · cases outcome : m.outcome <;> simp [entryOf, Member.losePower, outcome]

theorem State.lostRecord_stranger (s : State) {f : Frame} (stranger : f.members.get h = none) :
    (s.lostRecord f).heads.get h = none := by
  have lost : (f.losePower s.sched.skipped).members.get h = (f.members.get h).map Member.losePower := by cases h <;> rfl
  rw [State.lostRecord, recordOf_heads, lost, stranger]; rfl

theorem State.closeInterrupted_some {f : Frame} (flight : s.frame = some f) : s.closeInterrupted =
    { ((s.interruption f).energyClose.planClose (f.losePower s.sched.skipped)).journalClose (f.losePower s.sched.skipped) with
      frame := none } := by
  rw [State.closeInterrupted, flight]; rfl

theorem State.haltHead_miss (h k : Head) (s : State) :
    ((State.haltHead h s).heads.get k).miss = (s.heads.get k).miss := by
  rw [State.haltHead_eq]
  by_cases same : k = h
  · subst same
    rw [(State.cutHead_head _ k).1]; simp
  · rw [(State.cutHead_ne same).1]; simp

theorem State.energyClose_miss (s : State) (h : Head) : (s.energyClose.heads.get h).miss = (s.heads.get h).miss := by
  have measured : s.closeMeasured.heads = s.heads := by simp
  change ((s.closeMeasured.followHalt s.energy.effective).heads.get h).miss = _
  unfold State.followHalt
  split
  · have entered : s.closeMeasured.haltEntry.heads =
        (forHeads State.haltHead { s.closeMeasured with sched := s.closeMeasured.sched.noDue }).heads := by
      simp [State.haltEntry]
    rw [entered]
    simp only [forHeads, State.haltHead_miss, measured]
  · rw [measured]

theorem State.energyClose_sched (s : State) : s.energyClose.sched = s.sched ∨ s.energyClose.sched = s.sched.noDue := by
  have measured : s.closeMeasured.sched = s.sched := by simp
  change (s.closeMeasured.followHalt s.energy.effective).sched = _ ∨ (s.closeMeasured.followHalt s.energy.effective).sched = _
  unfold State.followHalt
  split
  · rw [State.haltEntry_sched, measured]; exact .inr rfl
  · rw [measured]; exact .inl rfl

/-- What the close of an interrupted frame leaves. -/
structure State.LostClose (s t : State) (f : Frame) : Prop where
  frame : t.frame = none
  time : t.time = s.time
  settings : t.settings = s.settings
  ramps : t.ramps = s.ramps
  run : t.sched.run = s.sched.run
  anchor : t.sched.anchor = s.sched.anchor
  skipped : t.sched.skipped = 0
  ring : t.journal.ring =
    (if 256 ≤ s.journal.ring.length then s.journal.ring.drop 1 else s.journal.ring) ++ [s.lostRecord f]
  swapped : ∀ e : Nat, s.plan.swapPending = some e →
    t.plan.active = s.plan.active.other ∧ t.plan.index = e ∧ t.plan.swapPending = none
  settled : s.plan.swapPending = none → t.plan = s.plan
  miss : ∀ h : Head, (t.heads.get h).miss = (s.heads.get h).miss

theorem State.closeInterrupted_lost {f : Frame} (flight : s.frame = some f) : s.LostClose s.closeInterrupted f := by
  have plan : (s.interruption f).energyClose.plan = s.plan := by simp [State.interruption]
  have journal : ((s.interruption f).energyClose.planClose (f.losePower s.sched.skipped)).journal = s.journal := by
    simp [State.interruption]
  have sched : (s.interruption f).energyClose.sched.run = s.sched.run
      ∧ (s.interruption f).energyClose.sched.anchor = s.sched.anchor ∧ (s.interruption f).energyClose.sched.skipped = 0 := by
    rcases (s.interruption f).energyClose_sched with same | same <;> rw [same] <;> exact ⟨rfl, rfl, rfl⟩
  obtain ⟨run, anchor, skipped⟩ := sched
  rw [State.closeInterrupted_some flight]
  refine ⟨rfl, by simp [State.interruption], by simp [State.interruption], by simp [State.interruption], by simpa using run,
    by simpa using anchor, by simpa using skipped, ?_, fun e pending => ?_, fun settled => ?_, fun h => ?_⟩
  · rw [State.journalClose_ring, journal]; rfl
  · obtain ⟨active, index, -, swapPending⟩ :=
      State.planClose_swap (s.interruption f).energyClose (f.losePower s.sched.skipped) (by rw [plan]; exact pending)
    rw [plan] at active
    simpa using ⟨active, index, swapPending⟩
  · have same := State.planClose_aborted (g := f.losePower s.sched.skipped) (s := (s.interruption f).energyClose)
      (by rw [plan]; exact settled) rfl nofun nofun
    rw [same]
    simpa using plan
  · simpa [State.interruption] using (s.interruption f).energyClose_miss h

theorem State.measure_bsense (s : State) : s.measure.bsense = s.bsense.advance := by
  simp [State.measure, State.takeReading]

/-- The reading of such a close that stays out of HALT. -/
theorem State.closeInterrupted_reading {f : Frame} (flight : s.frame = some f)
    (out : judgeVoltage s.settings s.energy.voltageTier (min s.bsense.level 16383) ≠ .halt) :
    s.closeInterrupted.energy.voltageTier = judgeVoltage s.settings s.energy.voltageTier (min s.bsense.level 16383)
      ∧ s.closeInterrupted.bsense = s.bsense.advance := by
  obtain ⟨-, -, voltage, effective⟩ := (s.interruption f).closeMeasured_reading
  have noEntry : (s.interruption f).energyClose = (s.interruption f).closeMeasured := by
    refine State.energyClose_of_noEntry (.inl ?_)
    rw [effective, voltage]
    exact worse_ne_halt out
  have bsense : (s.interruption f).closeMeasured.bsense = s.bsense.advance := by
    have read : (s.interruption f).closeMeasured.bsense = (forHeads State.accountMember (s.interruption f)).bsense.advance :=
      State.measure_bsense _
    rw [read]
    simp [forHeads, State.interruption]
  rw [State.closeInterrupted_some flight, noEntry]
  simpa using ⟨voltage, bsense⟩

/-! ### Steps 5 and 6: the battery and the meter -/

/-- Step 5 up to the measurement. -/
def State.resumeReady (s : State) : State :=
  { s.judgeFloor with energy := { s.judgeFloor.energy with measureTimer := some 60000 } }

/-- Steps 5 and 6 of a warm start. -/
def State.resumed (s : State) : State := s.resumeEnergy.resumeMeter

@[simp] theorem State.resumed_keeps (s : State) :
    s.resumed.supply = s.supply ∧ s.resumed.time = s.time ∧ s.resumed.sched = s.sched ∧ s.resumed.plan = s.plan
      ∧ s.resumed.ramps = s.ramps ∧ s.resumed.frame = s.frame ∧ s.resumed.triggers = s.triggers
      ∧ s.resumed.heads = s.heads ∧ s.resumed.journal = s.journal ∧ s.resumed.ports = s.ports
      ∧ s.resumed.windows = s.windows ∧ s.resumed.flags = s.flags ∧ s.resumed.settings = s.settings
      ∧ s.resumed.meter = s.meter.start s.settings := by
  simp [State.resumed, State.resumeMeter, State.resumeEnergy]

theorem State.resumed_energy (s : State) :
    s.resumed.energy.reading = min s.bsense.level 16383 ∧ s.resumed.energy.measureTimer = some 60000
      ∧ s.resumed.energy.voltageTier = judgeVoltage s.settings s.energy.voltageTier (min s.bsense.level 16383)
      ∧ s.resumed.energy.effective = worse s.resumed.energy.voltageTier s.resumed.energy.floor.tier
      ∧ s.resumed.energy.onTime = s.energy.onTime := by
  have measured : s.resumed.energy = s.resumeReady.measure.energy := rfl
  rw [measured, State.measure_energy]
  exact ⟨rfl, rfl, rfl, rfl, rfl⟩

theorem State.resumed_events (s : State) : s.EventsKept s.resumed := by
  have ready : s.EventsKept s.resumeReady := .of_eq rfl
  exact (ready.trans (State.measure_events _)).trans (.of_eq rfl)

theorem State.resumed_enables (s : State) (st : Station) :
    (s.resumed.stations.get st).enables = (s.stations.get st).enables := State.judgeTier_enables _ st

theorem Meter.start_fresh (st : Settings) : (Meter.fresh.start st).activity ≠ .idle ∧ (Meter.fresh.start st).latest = none
    ∧ (Meter.fresh.start st).previousLevel = none ∧ (Meter.fresh.start st).readingGate = .s1 := by
  refine ⟨?_, rfl, rfl, rfl⟩
  simp only [Meter.start]
  split <;> exact nofun

/-! ### Step 7: the schedule -/

theorem State.resumeSchedule_held (held : s.sched.run = .held) : s.resumeSchedule = { s with sched := s.sched.noDue } := by
  rw [State.resumeSchedule, held]

/-- The START anchor of step 7. -/
def State.anchored (s : State) : State := { s with sched := s.sched.setAnchor (s.now + 5) .start }

theorem State.resumeSchedule_running (running : s.sched.run = .running) : s.resumeSchedule = s.anchored.reschedule := by
  rw [State.resumeSchedule, running]; rfl

theorem State.reschedule_of_noSchedule (idle : s.frame = none) (without : s.noSchedule = true) :
    s.reschedule = { s with sched := s.sched.noDue } := by
  rw [State.reschedule_of_none idle, State.computeDue_of_noSchedule without]
  exact State.tryOpen_of_none rfl

/-- A START anchor stays whatever the schedule makes of it. -/
theorem State.reschedule_anchored (idle : s.frame = none) (running : s.sched.run = .running) :
    s.anchored.reschedule.sched.run = .running
      ∧ s.anchored.reschedule.sched.anchor = some ⟨s.now + 5, .start⟩ := by
  cases without : s.anchored.noSchedule with
  | true =>
    rw [State.reschedule_of_noSchedule (s := s.anchored) idle without]
    exact ⟨running, rfl⟩
  | false =>
    rcases Nat.lt_or_ge 4 s.anchored.groupLead with long | short
    · rw [State.reschedule_of_longLead (s := s.anchored) idle without rfl rfl long, State.openFrame_sched]
      exact ⟨running, rfl⟩
    · rw [State.reschedule_of_shortLead (s := s.anchored) idle without rfl rfl short]
      exact ⟨running, rfl⟩

theorem State.reschedule_anchored_halt (idle : s.frame = none) (halt : s.energy.effective = .halt) :
    s.anchored.reschedule = { s.anchored with sched := s.anchored.sched.noDue } :=
  State.reschedule_of_noSchedule idle (by simp [State.noSchedule, State.anchored, halt])

theorem State.reschedule_anchored_due (idle : s.frame = none) (running : s.sched.run = .running) (left : s.exhausted = false)
    (powered : s.energy.effective ≠ .halt) (short : ∀ h : Head, (s.settings.head.get h).lead ≤ 4) :
    s.anchored.reschedule = s.anchored.scheduledAt (s.now + 5) :=
  State.reschedule_of_shortLead (s := s.anchored) idle (State.noSchedule_false running left powered) rfl rfl
    (State.groupLead_le short)

/-! ### The command -/

theorem exec_warmStart (s : State) (shown : List Nat) : exec (.warmStart shown) s = .next (s.warmStarted shown) := rfl

theorem BSense.present_eq (b : BSense) (shown : List Nat) :
    b.present shown = match shown with | [] => b | w :: rest => ⟨w, rest⟩ := by cases shown <;> rfl

end

end Sys2Proof.Machine

namespace Sys2Proof.Proofs

open Sys2Proof.Machine

/-- Settles O54, by the steps of the resumption. -/
theorem warmStartResumesAHeldPart : Obligations.WarmStartResumesAHeldPart := by
  unfold Obligations.WarmStartResumesAHeldPart
  rintro shown shows shown_eq
  obtain rfl : shows = fun b => b.present shown := funext fun b => (shown_eq b).trans (b.present_eq shown).symm
  refine ⟨fun s idle held => ?_, fun s f flight held => ?_, fun s idle running interval => ?_,
    fun s f tier flight running interval settled more short judged first second => ?_⟩
  all_goals rw [exec_warmStart, State.warmStarted_eq]
  · obtain ⟨supply, bsense, time, sched, plan, meter, ramps, frame, journal, windows, flags, settings, -⟩ :=
      s.warmSettled_keeps shown
    obtain ⟨busy, latest, level, gate⟩ := Meter.start_fresh s.settings
    have heads := s.warmSettled_head shown
    have ports := s.warmSettled_port shown
    have stations := s.warmSettled_station shown
    generalize s.warmSettled shown = w at *
    have held' : w.sched.run = .held := by rw [sched, held]
    rw [State.countMissed_held held', State.closeInterrupted_none (frame.trans idle)]
    obtain ⟨supply', time', sched', plan', ramps', frame', triggers', heads', journal', ports', windows', flags', settings',
      meter'⟩ := w.resumed_keeps
    obtain ⟨reading, timer, -, -, onTime⟩ := w.resumed_energy
    have events := w.resumed_events
    have enables := w.resumed_enables
    change ∃ t : State, Host.Outcome.next w.resumed.resumeSchedule = .next t ∧ _
    generalize w.resumed = r at *
    rw [State.resumeSchedule_held (sched' ▸ held')]
    have meter'' : r.meter = Meter.fresh.start s.settings := by rw [meter', meter, settings]
    refine ⟨_, rfl, supply'.trans supply, fun st => ?_, fun i => ?_, fun h => ?_, fun q => ?_, ?_, ?_, ?_, ?_, ?_, timer, rfl, rfl,
      ?_, ?_, frame'.trans (frame.trans idle), plan'.trans plan, ramps'.trans ramps, journal'.trans journal,
      windows'.trans windows, settings'.trans settings, ?_, ?_, ?_⟩
    · exact ⟨events st _ (stations st).1, (enables st).trans (stations st).2⟩
    · change r.flags.get i = none
      rw [flags', flags]; cases i <;> rfl
    · obtain ⟨head, trigger, spent⟩ := heads h
      change (r.heads.get h).state = _ ∧ (r.triggers.get h).Quiet ∧ _
      rw [heads', triggers', onTime, head, trigger, spent]
      exact ⟨rfl, ⟨rfl, rfl, rfl⟩, rfl, rfl, rfl, rfl, rfl⟩
    · change (r.ports.get q).queue = _ ∧ _
      rw [ports', ports q]
      exact ⟨rfl, rfl, rfl, rfl, rfl⟩
    · change r.meter.activity ≠ _
      rwa [meter'']
    · exact (congrArg _ meter'').trans latest
    · exact (congrArg _ meter'').trans level
    · exact (congrArg _ meter'').trans gate
    · change r.energy.reading = _
      rw [reading, bsense]
    · change r.sched.anchor = _
      rw [sched', sched]
    · change r.sched.skipped = _
      rw [sched', sched]
    all_goals rw [time', time]
  · obtain ⟨-, -, -, sched, plan, -, ramps, frame, journal, -⟩ := s.warmSettled_keeps shown
    have heads := s.warmSettled_head shown
    generalize s.warmSettled shown = w at *
    have held' : w.sched.run = .held := by rw [sched, held]
    have lost := State.closeInterrupted_lost (s := w) (f := f) (frame.trans flight)
    rw [State.countMissed_held held']
    generalize w.closeInterrupted = c at *
    obtain ⟨-, -, sched', plan', ramps', frame', -, heads', journal', -⟩ := c.resumed_keeps
    change ∃ (t : State) (r : JournalRecord), Host.Outcome.next c.resumed.resumeSchedule = .next t ∧ _
    generalize c.resumed = r at *
    rw [State.resumeSchedule_held (by rw [sched', lost.run, held'])]
    refine ⟨_, w.lostRecord f, rfl, frame'.trans lost.frame, ?_, rfl, rfl, ?_, fun h m member => w.lostRecord_head member,
      fun h stranger => w.lostRecord_stranger stranger, ?_, ?_, ramps'.trans (lost.ramps.trans ramps), fun e pending => ?_,
      fun settled => plan'.trans ((lost.settled (by rw [plan, settled])).trans plan), fun h => ?_⟩
    · change r.journal.ring = _
      rw [journal', lost.ring, journal]
    · rw [← sched]; rfl
    · change r.sched.skipped = 0
      rw [sched', lost.skipped]
    · change r.sched.anchor = _
      rw [sched', lost.anchor, sched]
    · change r.plan.active = _ ∧ r.plan.index = _ ∧ r.plan.swapPending = _
      rw [plan', ← plan]
      exact lost.swapped e (by rw [plan, pending])
    · change (r.heads.get h).miss = _
      rw [heads', lost.miss, (heads h).1]; rfl
  · have counted := State.warmSettled_counted running shown
    generalize (s.warmSettled shown).countMissed = v at *
    rw [State.closeInterrupted_none (counted.frame.trans idle)]
    obtain ⟨-, time', sched', plan', -, frame', -, -, -, -, -, -, settings', -⟩ := v.resumed_keeps
    obtain ⟨-, -, tier, effective, -⟩ := v.resumed_energy
    rw [counted.settings, counted.voltage, counted.bsense] at tier
    change ∃ (t : State) (n : Nat), Host.Outcome.next v.resumed.resumeSchedule = .next t ∧ _
    generalize v.resumed = r at *
    have idle' : r.frame = none := frame'.trans (counted.frame.trans idle)
    have run : r.sched.run = .running := by rw [sched', counted.run]
    have now : r.now = s.time.count := by rw [← counted.now, State.now, time']; rfl
    obtain ⟨stays, anchor⟩ := State.reschedule_anchored idle' run
    rw [State.resumeSchedule_running run]
    refine ⟨_, s.missedDueTimes (s.time.count + 5), rfl, stays, by rw [anchor, now],
      fun due => State.missed_of_noDue idle due _, fun d due => State.lt_missed_of_due idle due interval _, fun halt => ?_,
      fun powered left short => ?_⟩
    · have halt' : r.energy.effective = .halt := by rw [effective, tier, halt, worse_halt]
      rw [State.reschedule_anchored_halt idle' halt']
      exact ⟨rfl, rfl, idle', (congrArg Scheduler.skipped sched').trans counted.skipped⟩
    · have powered' : r.energy.effective ≠ .halt := by rw [effective, tier]; exact worse_ne_halt powered
      have left' : r.exhausted = false := by rw [State.exhausted, plan', counted.plan]; exact left
      rw [State.reschedule_anchored_due idle' run left' powered' (by rw [settings', counted.settings]; exact short), now]
      refine ⟨idle', rfl, rfl, rfl, ?_, ?_⟩
      · rw [← counted.plan, ← plan']; rfl
      · change min r.sched.skipped 65535 = _
        rw [sched', counted.skipped]
        omega
  · have counted := State.warmSettled_counted running shown
    generalize (s.warmSettled shown).countMissed = v at *
    have flight' : v.frame = some f := counted.frame.trans flight
    have read : judgeVoltage v.settings v.energy.voltageTier (min v.bsense.level 16383) = tier := by
      rw [judged, counted.settings, counted.voltage, counted.bsense]
    have lost := State.closeInterrupted_lost flight'
    obtain ⟨voltage', bsense'⟩ := State.closeInterrupted_reading flight' (by rw [read]; exact first)
    rw [read] at voltage'
    generalize v.closeInterrupted = c at *
    obtain ⟨-, time', sched', plan', ramps', frame', -, -, journal', -, -, -, settings', -⟩ := c.resumed_keeps
    obtain ⟨-, -, tier', effective, -⟩ := c.resumed_energy
    rw [voltage', bsense', lost.settings, counted.settings, counted.bsense] at tier'
    change ∃ (t : State) (r : JournalRecord) (n : Nat), Host.Outcome.next c.resumed.resumeSchedule = .next t ∧ _
    generalize c.resumed = r at *
    have idle' : r.frame = none := frame'.trans lost.frame
    have run : r.sched.run = .running := by rw [sched', lost.run, counted.run]
    have now : r.now = s.time.count := by rw [← counted.now, State.now, time', lost.time]; rfl
    have plan : r.plan = s.plan := plan'.trans ((lost.settled (by rw [counted.plan, settled])).trans counted.plan)
    have settings : r.settings = s.settings := settings'.trans (lost.settings.trans counted.settings)
    have powered : r.energy.effective ≠ .halt := by rw [effective, tier']; exact worse_ne_halt second
    have left : r.exhausted = false := by rw [State.exhausted, plan]; exact more
    rw [State.resumeSchedule_running run, State.reschedule_anchored_due idle' run left powered (by rw [settings]; exact short), now]
    refine ⟨_, v.lostRecord f, s.missedDueTimes (s.time.count + 5), rfl, idle', ?_, rfl, rfl,
      State.lt_missed_of_flight flight interval _, ?_, ?_, ?_, rfl, plan, ramps'.trans (lost.ramps.trans counted.ramps)⟩
    · change r.journal.ring = _
      rw [journal', lost.ring, counted.journal]
    · rw [← counted.skipped]; rfl
    · change min r.sched.skipped 65535 = 0
      rw [sched', lost.skipped]; rfl
    · rw [← now]; rfl

end Sys2Proof.Proofs

/-! ## What the charge of a day can be after a rollover -/

namespace Sys2Proof.Machine

section

variable {s t u : State} {h : Head}

/-- The charge that an accumulator has yet to give. -/
def State.chargeOn (s : State) (h : Head) : Nat := chargeOf (s.energy.onTime.get h).ms (s.settings.head.get h).current

/-- The spend, with everything that the accumulators can still add to it. -/
def State.chargeAhead (s : State) : Nat :=
  s.energy.spend + s.chargeOn .h0 + s.chargeOn .h1 + s.chargeOn .h2 + s.chargeOn .h3

/-- Budget floor and effective tier as the rules have them. -/
def State.Judged (s : State) : Prop :=
  s.energy.floor = floorOf s.settings.allowance s.energy.spend
    ∧ s.energy.effective = worse s.energy.voltageTier s.energy.floor.tier

/-- No charge comes from nowhere, and floor and tier stay judged. -/
structure State.Spends (s t : State) : Prop where
  settings : t.settings = s.settings
  judged : s.Judged → t.Judged
  charge : t.chargeAhead ≤ s.chargeAhead

theorem State.Spends.of_eq (energy : t.energy = s.energy) (settings : t.settings = s.settings) : s.Spends t := by
  refine ⟨settings, fun judged => ?_, ?_⟩
  · rwa [State.Judged, energy, settings]
  · simp only [State.chargeAhead, State.chargeOn, energy, settings, le_refl]

theorem State.Spends.refl (s : State) : s.Spends s := .of_eq rfl rfl

theorem State.Spends.trans (a : s.Spends t) (b : t.Spends u) : s.Spends u :=
  ⟨b.settings.trans a.settings, fun judged => b.judged (a.judged judged), b.charge.trans a.charge⟩

theorem State.Spends.ite {c : Prop} [Decidable c] (a : c → s.Spends t) (b : ¬c → s.Spends u) :
    s.Spends (if c then t else u) := by
  split
  exacts [a ‹_›, b ‹_›]

theorem State.Spends.forHeads {f : Head → State → State} (step : ∀ (h : Head) (s : State), s.Spends (f h s)) (s : State) :
    s.Spends (forHeads f s) :=
  (((step .h0 s).trans (step .h1 _)).trans (step .h2 _)).trans (step .h3 _)

/-! ### The operations of the Energy Monitor -/

theorem State.account_energy (s : State) (h : Head) :
    (s.account h).energy.spend = min (s.energy.spend + s.chargeOn h) 4294967295
      ∧ (s.account h).energy.floor = floorOf s.settings.allowance (s.account h).energy.spend
      ∧ (s.account h).energy.effective = worse (s.account h).energy.voltageTier (s.account h).energy.floor.tier := by
  rw [State.account, State.judgeTier_energy]
  simp [State.judgeFloor, State.addCharge, State.modOnTime, saturate, Config.maxCharge, State.chargeOn, State.headSettings]

theorem State.account_chargeOn (s : State) (h k : Head) :
    (s.account h).chargeOn k = if k = h then 0 else s.chargeOn k := by
  have settings : (s.account h).settings = s.settings := by simp
  rw [State.chargeOn, State.account_onTime, settings]
  split
  · simp [chargeOf]
  · rfl

theorem State.account_spends (s : State) (h : Head) : s.Spends (s.account h) := by
  obtain ⟨spend, floor, effective⟩ := s.account_energy h
  refine ⟨by simp, fun _ => ⟨by simpa using floor, effective⟩, ?_⟩
  simp only [State.chargeAhead, spend, State.account_chargeOn]
  cases h <;> simp <;> omega

theorem State.modOnTime_spends (s : State) (h : Head) (g : OnTime → OnTime) (kept : ∀ o : OnTime, (g o).ms = o.ms) :
    s.Spends (s.modOnTime h g) := by
  have charge (k : Head) : (s.modOnTime h g).chargeOn k = s.chargeOn k := by
    have ms : ((s.modOnTime h g).energy.onTime.get k).ms = (s.energy.onTime.get k).ms := by
      simp only [State.modOnTime, Four.get_set]
      split
      next same => rw [kept, same]
      next => rfl
    rw [State.chargeOn, State.chargeOn, ms]
    rfl
  refine ⟨rfl, id, ?_⟩
  simp only [State.chargeAhead, charge]
  exact le_refl _

theorem State.stopOnTime_spends (s : State) (h : Head) : s.Spends (s.stopOnTime h) :=
  .ite (fun _ => (s.modOnTime_spends h (fun o => { o with running := false }) fun _ => rfl).trans (State.account_spends _ h))
    fun _ => .refl s

theorem State.railOff_spends (s : State) (h : Head) : s.Spends (s.railOff h) :=
  (s.stopOnTime_spends h).trans (.of_eq (by simp [State.railOff]) (by simp [State.railOff]))

theorem State.measure_spends (s : State) : s.Spends s.measure := by
  have energy := s.measure_energy
  have settings : s.measure.settings = s.settings := by simp
  refine ⟨settings, fun ⟨floor, _⟩ => ⟨?_, ?_⟩, ?_⟩
  · rw [energy, settings]; exact floor
  · rw [energy]
  · simp only [State.chargeAhead, State.chargeOn, energy, settings]
    exact le_refl _

/-! ### The Frame Unit -/

theorem State.haltHead_spends (h : Head) (s : State) : s.Spends (State.haltHead h s) := by
  rw [State.haltHead_eq, State.cutHead]
  exact (State.Spends.of_eq (by simp) (by simp)).trans (State.railOff_spends _ h)

theorem State.haltEntry_spends (s : State) : s.Spends s.haltEntry := by
  have begun : s.Spends { s with sched := s.sched.noDue } := .of_eq rfl rfl
  exact (begun.trans (.forHeads State.haltHead_spends _)).trans
    (.of_eq (by simp [State.haltEntry]) (by simp [State.haltEntry]))

theorem State.wake_spends (s : State) (f : Frame) (h : Head) : s.Spends (s.wake f h) := by
  unfold State.wake State.enterWaking
  split
  · exact (s.modOnTime_spends h (fun o => { o with running := true }) fun _ => rfl).trans (.of_eq rfl rfl)
  · exact .of_eq (by simp) (by simp)
  all_goals exact .refl s

theorem State.wakeIfReached_spends (h : Head) (s : State) : s.Spends (State.wakeIfReached h s) := by
  unfold State.wakeIfReached
  split
  · exact .refl s
  · next f _ =>
    split
    · exact .refl s
    · next m _ =>
      refine .ite (fun _ => ?_) fun _ => .refl s
      have woken : s.Spends (if m.outcome.isNone then s.wake f h else s) :=
        .ite (fun _ => s.wake_spends f h) fun _ => .refl s
      exact woken.trans (.of_eq (by simp) (by simp))

theorem State.reachD_spends (s : State) : s.Spends s.reachD := by
  unfold State.reachD
  split
  · exact .refl s
  · refine .ite (fun _ => ?_) fun _ => .refl s
    split
    · exact .of_eq (by simp) (by simp)
    · obtain ⟨-, abandoned, -⟩ := s.abandon_rest
      exact .ite (fun _ => .of_eq (by simp) (by simp)) fun _ => .ite (fun _ => .of_eq (by simp) (by simp))
        fun _ => .of_eq abandoned (by simp)
    all_goals exact .refl s

theorem State.dropStandby_spends (g : HeadSet) (h : Head) (s : State) : s.Spends (State.dropStandby g h s) :=
  .ite (fun _ => s.railOff_spends h) fun _ => .refl s

theorem State.openFrame_spends (s : State) (due : Int) (g : HeadSet) (forced : Bool) :
    s.Spends (s.openFrame due g forced) := by
  have created : s.Spends (s.createFrame due g forced) := .of_eq (by simp) (by simp)
  have asked (t : State) : t.Spends t.askReading := .of_eq (by simp) (by simp)
  have dropped := created.trans (.forHeads (State.dropStandby_spends g) _)
  exact ((dropped.trans (asked _)).trans (.forHeads State.wakeIfReached_spends _)).trans (State.reachD_spends _)

theorem State.tryOpen_spends (s : State) : s.Spends s.tryOpen := by
  refine .ite (fun _ => ?_) fun _ => .refl s
  split
  · exact .ite (fun _ => .of_eq (by simp) (by simp)) fun _ => s.openFrame_spends _ _ _
  · exact .refl s

theorem State.reschedule_spends (s : State) : s.Spends s.reschedule :=
  .ite (fun _ => .refl s) fun _ => (State.Spends.of_eq (by simp) (by simp)).trans (State.tryOpen_spends _)

theorem State.accountMember_spends (h : Head) (s : State) : s.Spends (State.accountMember h s) :=
  .ite (fun _ => s.account_spends h) fun _ => .refl s

theorem State.energyClose_spends (s : State) : s.Spends s.energyClose :=
  ((State.Spends.forHeads State.accountMember_spends s).trans (State.measure_spends _)).trans
    (.ite (fun _ => State.haltEntry_spends _) fun _ => .refl _)

theorem State.takeUpClose_spends (s : State) (f : Frame) : s.Spends (s.takeUpClose f) := by
  have begun : s.Spends { s with frame := some f, armTimer := none } := .of_eq rfl rfl
  exact (begun.trans (State.energyClose_spends _)).trans
    (.of_eq (by simp [State.takeUpClose]) (by simp [State.takeUpClose]))

theorem State.closeIfFinished_spends (s : State) : s.Spends s.closeIfFinished := by
  unfold State.closeIfFinished
  split
  · exact .refl s
  · next f _ =>
    refine .ite (fun _ => ?_) fun _ => .refl s
    have anchored : (s.takeUpClose f.concluded).Spends (s.closedUp f) :=
      .of_eq (by simp only [State.closedUp]) (by simp only [State.closedUp])
    rw [State.closeFrame_eq]
    exact (((s.takeUpClose_spends _).trans anchored).trans (.of_eq (by simp) (by simp))).trans (State.tryOpen_spends _)

theorem State.followTier_spends (s : State) (before : Tier) : s.Spends (s.followTier before) :=
  .ite (fun _ => .refl s) fun _ => .ite (fun _ => s.haltEntry_spends) fun _ => s.reschedule_spends

theorem State.judgeAtTime_spends (s : State) : s.Spends s.judgeAtTime :=
  .ite (fun _ => (State.Spends.of_eq (by simp) (by simp)).trans (State.reschedule_spends _)) fun _ => .refl s

end

/-! ## Misses after a rollover -/

section

variable {s t : State} {h : Head}

/-- A head as a rollover leaves it: ADMITTED, no miss, no storage mark. -/
def HeadSeq.Fresh (x : HeadSeq) : Prop := x.miss = 0 ∧ x.exclusion = none ∧ x.storageMark = false

/-- A head whose member has missed its arming at this advance. -/
def State.JustMissed (s : State) (h : Head) : Prop :=
  (s.heads.get h).storageMark = false ∧ (s.heads.get h).miss = 1 ∧ (s.heads.get h).state = .closing
    ∧ s.outcomeOf h = some .noReady

/-- Every head as the rollover left it. -/
def State.AllFresh (s : State) : Prop := ∀ h : Head, (s.heads.get h).Fresh

/-- Every head as the rollover left it, but for the misses of this advance. -/
def State.Readmitted (s : State) : Prop := ∀ h : Head, (s.heads.get h).Fresh ∨ s.JustMissed h

theorem State.AllFresh.readmitted (fresh : s.AllFresh) : s.Readmitted := fun h => .inl (fresh h)

theorem State.AllFresh.of_heads (fresh : s.AllFresh) (heads : t.heads = s.heads) : t.AllFresh := by
  rwa [State.AllFresh, heads]

theorem State.AllFresh.everyHead {f : Head → State → State} (step : ∀ (h : Head) (s : State), s.AllFresh → (f h s).AllFresh)
    (fresh : s.AllFresh) : (forHeads f s).AllFresh :=
  step .h3 _ (step .h2 _ (step .h1 _ (step .h0 s fresh)))

theorem State.Readmitted.everyHead {f : Head → State → State}
    (step : ∀ (h : Head) (s : State), s.Readmitted → (f h s).Readmitted) (clean : s.Readmitted) : (forHeads f s).Readmitted :=
  step .h3 _ (step .h2 _ (step .h1 _ (step .h0 s clean)))

/-- A head and an outcome that stand keep their side. -/
theorem State.Readmitted.at_of_eq (clean : s.Readmitted) (h : Head) (head : t.heads.get h = s.heads.get h)
    (outcome : t.outcomeOf h = s.outcomeOf h) : (t.heads.get h).Fresh ∨ t.JustMissed h := by
  rw [State.JustMissed, head, outcome]; exact clean h

theorem State.Readmitted.of_eq (clean : s.Readmitted) (heads : t.heads = s.heads) (outcome : ∀ h : Head, t.outcomeOf h = s.outcomeOf h) :
    t.Readmitted := fun h => clean.at_of_eq h (by rw [heads]) (outcome h)

theorem State.outcomeOf_of_frame (frame : t.frame = s.frame) (h : Head) : t.outcomeOf h = s.outcomeOf h :=
  State.outcomeOf_congr h (State.member_congr h frame)

theorem State.Readmitted.fresh_of_idle (clean : s.Readmitted) (idle : s.frame = none) : s.AllFresh := fun h =>
  (clean h).resolve_right fun ⟨_, _, _, missed⟩ => by simp [State.outcomeOf, State.member_eq, idle] at missed

theorem State.Readmitted.fresh_of_finished (clean : s.Readmitted) (finished : s.frameFinished = true) : s.AllFresh := fun h => by
  refine (clean h).resolve_right fun ⟨_, _, closing, missed⟩ => ?_
  have own := State.frameFinished_iff.mp finished h
  cases member : s.member h with
  | none => simp [State.outcomeOf, member] at missed
  | some m => simp [State.memberFinished, member, closing] at own

/-! ### The operations -/

theorem State.AllFresh.railOff (fresh : s.AllFresh) (h : Head) : (s.railOff h).AllFresh := by
  intro k
  by_cases same : k = h
  · subst same
    rw [State.railOff_head]; exact fresh k
  · obtain ⟨head, -⟩ := State.railOff_ne (s := s) same
    rw [head]; exact fresh k

theorem State.AllFresh.haltHead (fresh : s.AllFresh) (h : Head) : (State.haltHead h s).AllFresh := by
  rw [State.haltHead_eq, State.cutHead]
  refine State.AllFresh.railOff (fun k => ?_) h
  rw [State.storageApplied_heads, Four.get_set]
  obtain ⟨miss, exclusion, mark⟩ := fresh h
  split
  · simp [HeadSeq.Fresh, HeadSeq.storedExclusion, miss, exclusion, mark]
  · simpa using fresh k

theorem State.AllFresh.haltEntry (fresh : s.AllFresh) : s.haltEntry.AllFresh := by
  have begun : ({ s with sched := s.sched.noDue } : State).AllFresh := fresh
  exact (begun.everyHead fun h _ clean => clean.haltHead h).of_heads (by simp [State.haltEntry])

theorem State.wakeIfReached_self (h : Head) (s : State) :
    ((State.wakeIfReached h s).heads.get h = s.heads.get h ∨ (s.undecided h = true
        ∧ ∃ timer : Option Nat, (State.wakeIfReached h s).heads.get h = { (s.heads.get h).enter .waking with hello := timer }))
      ∧ (State.wakeIfReached h s).outcomeOf h = s.outcomeOf h := by
  unfold State.wakeIfReached
  cases frame : s.frame with
  | none => exact ⟨.inl rfl, rfl⟩
  | some f =>
    dsimp only
    cases member : f.members.get h with
    | none => exact ⟨.inl rfl, rfl⟩
    | some m =>
      have entry : s.member h = some m := (State.member_some h frame).trans member
      dsimp only
      split
      · cases outcome : m.outcome with
        | some o => simp [State.outcomeOf, entry]
        | none =>
          have undecided : s.undecided h = true := (State.undecided_iff _ _).mpr ⟨m, entry, outcome⟩
          refine ⟨?_, by simp [State.outcomeOf, entry]⟩
          simp only [Option.isNone_none, if_true, State.modMember_keeps]
          unfold State.wake State.enterWaking
          split
          · exact .inr ⟨undecided, _, by simp; rfl⟩
          · exact .inr ⟨undecided, _, by simp; rfl⟩
          all_goals exact .inl rfl
      · exact ⟨.inl rfl, rfl⟩

/-- A missed member is decided. -/
theorem State.JustMissed.decided (missed : s.JustMissed h) : s.undecided h = false := by
  obtain ⟨-, -, -, outcome⟩ := missed
  rw [← Bool.not_eq_true, State.undecided_iff]
  rintro ⟨m, entry, open_⟩
  simp [State.outcomeOf, entry, open_] at outcome

theorem State.Readmitted.fresh_of_undecided (clean : s.Readmitted) (open_ : s.undecided h = true) : (s.heads.get h).Fresh :=
  (clean h).resolve_right fun missed => by simp [missed.decided] at open_

theorem State.Readmitted.wakeIfReached (h : Head) (s : State) (clean : s.Readmitted) : (State.wakeIfReached h s).Readmitted := by
  intro k
  by_cases same : k = h
  · subst same
    obtain ⟨head | ⟨open_, timer, head⟩, outcome⟩ := State.wakeIfReached_self k s
    · exact clean.at_of_eq k head outcome
    · left; rw [head]; exact clean.fresh_of_undecided open_
  · obtain ⟨member, head⟩ := s.wakeIfReached_ne same
    exact clean.at_of_eq k head (by rw [State.outcomeOf, State.outcomeOf, member])

theorem State.Readmitted.fireArmed (clean : s.Readmitted) : s.fireArmed.Readmitted := by
  intro h
  have outcome : s.fireArmed.outcomeOf h = s.outcomeOf h := State.outcomeOf_of_frame (by simp) h
  cases frame : s.frame with
  | none =>
    have still : s.fireArmed = s := by simp [State.fireArmed, forHeads, State.fireIfArmed, State.armedMember, State.member_eq, frame]
    rw [still]; exact clean h
  | some f =>
    by_cases armed : (s.heads.get h).state = .armed
    · cases member : f.members.get h with
      | none =>
        obtain ⟨head, -⟩ := State.fireArmed_of_not frame (.inl member)
        exact clean.at_of_eq h head outcome
      | some m =>
        obtain ⟨head, -⟩ := State.fireArmed_of_armed frame member armed
        left
        rw [head]
        exact (clean h).resolve_right fun ⟨_, _, closing, _⟩ => by simp [armed] at closing
    · obtain ⟨head, -⟩ := State.fireArmed_of_not frame (.inr armed)
      exact clean.at_of_eq h head outcome

theorem State.Readmitted.abandon (clean : s.Readmitted) : s.abandon.Readmitted := by
  intro h
  have kept {x : HeadSeq} (fresh : x.Fresh) (head : (forHeads State.abandonMember s).heads.get h = x) :
      (s.abandon.heads.get h).Fresh ∨ s.abandon.JustMissed h := .inl (by rwa [State.abandon_heads, head])
  cases open_ : s.undecided h with
  | false =>
    obtain ⟨member, head⟩ := State.abandonMembers_decided open_
    refine clean.at_of_eq h (by rw [State.abandon_heads, head]) ?_
    rw [State.outcomeOf, State.outcomeOf, State.abandon_member, member]
  | true =>
    have fresh := clean.fresh_of_undecided open_
    have late (state : (s.heads.get h).state = .waking ∨ (s.heads.get h).state = .ticketed) :
        (s.abandon.heads.get h).Fresh ∨ s.abandon.JustMissed h := by
      obtain ⟨member, head, -⟩ := State.abandonMembers_notReady open_ state
      obtain ⟨miss, -, mark⟩ := fresh
      right
      rw [State.JustMissed, State.abandon_heads, head]
      exact ⟨mark, by simp [HeadSeq.enterClosing, HeadSeq.enter, miss], rfl,
        State.outcomeOf_decided open_ (by rw [State.abandon_member, member])⟩
    have past (state : (s.heads.get h).state = .exposing ∨ (s.heads.get h).state = .reporting ∨ (s.heads.get h).state = .closing) :
        (s.abandon.heads.get h).Fresh ∨ s.abandon.JustMissed h := by
      obtain ⟨-, head, -⟩ := State.abandonMembers_at (s := s) (k := h) (entry := s.member h) (head := s.heads.get h)
        (raised := False) fun t member head _ => by
          rw [State.abandonMember_of_past (by rwa [head])]; exact ⟨member, head, nofun⟩
      exact kept fresh head
    cases state : (s.heads.get h).state with
    | off => exact kept fresh (State.abandonMembers_asleep open_ (.inl state)).2
    | standby => exact kept fresh (State.abandonMembers_asleep open_ (.inr state)).2
    | waking => exact late (.inl state)
    | ticketed => exact late (.inr state)
    | armed => exact kept (x := (s.heads.get h).enterClosing) fresh (State.abandonMembers_armed open_ state).2
    | exposing => exact past (.inl state)
    | reporting => exact past (.inr (.inl state))
    | closing => exact past (.inr (.inr state))

theorem State.Readmitted.setSync (clean : s.Readmitted) (y : Sync) : (s.setSync y).Readmitted :=
  clean.of_eq (by simp [State.setSync]) fun h => by rw [State.outcomeOf, State.setSync_member]; rfl

theorem State.Readmitted.reachD (clean : s.Readmitted) : s.reachD.Readmitted := by
  unfold State.reachD State.reachLocked
  split
  · exact clean
  · split
    · split
      · exact (clean.setSync _).fireArmed
      · split
        · exact (clean.fireArmed.setSync .fired).of_eq rfl fun _ => rfl
        · split
          · exact (clean.setSync .window).of_eq rfl fun _ => rfl
          · exact clean.abandon
      all_goals exact clean
    · exact clean

theorem State.AllFresh.openFrame (fresh : s.AllFresh) (due : Int) (g : HeadSet) (forced : Bool) :
    (s.openFrame due g forced).Readmitted := by
  have created : (s.createFrame due g forced).AllFresh := fresh.of_heads (by simp)
  have dropped : (forHeads (State.dropStandby g) (s.createFrame due g forced)).AllFresh := by
    refine created.everyHead fun h t clean => ?_
    unfold State.dropStandby
    split
    · exact clean.railOff h
    · exact clean
  exact (State.Readmitted.everyHead State.Readmitted.wakeIfReached (dropped.of_heads (by simp)).readmitted).reachD

theorem State.Readmitted.tryOpen (clean : s.Readmitted) : s.tryOpen.Readmitted := by
  unfold State.tryOpen State.openScheduled
  split
  next opens =>
    have fresh := clean.fresh_of_idle (by simpa using (Bool.and_eq_true_iff.mp opens).1)
    split
    · split
      · exact (fresh.of_heads (by simp)).readmitted
      · exact fresh.openFrame _ _ _
    · exact clean
  next => exact clean

theorem State.Readmitted.reschedule (clean : s.Readmitted) : s.reschedule.Readmitted := by
  unfold State.reschedule
  split
  · exact clean
  · exact (clean.of_eq (by simp) fun h => State.outcomeOf_of_frame (by simp) h).tryOpen

theorem State.AllFresh.takeUpClose (fresh : s.AllFresh) (f : Frame) : (s.takeUpClose f).AllFresh := by
  have measured : ({ s with frame := some f, armTimer := none } : State).closeMeasured.AllFresh := fresh.of_heads (by simp)
  have closed : ({ s with frame := some f, armTimer := none } : State).energyClose.AllFresh := by
    change (State.followHalt ({ s with frame := some f, armTimer := none } : State).closeMeasured _).AllFresh
    unfold State.followHalt
    split
    · exact measured.haltEntry
    · exact measured
  exact closed.of_heads (by simp [State.takeUpClose])

theorem State.Readmitted.closeIfFinished (clean : s.Readmitted) : s.closeIfFinished.Readmitted := by
  unfold State.closeIfFinished
  split
  · exact clean
  · next f _ =>
    split
    next finished =>
      have taken := (clean.fresh_of_finished finished).takeUpClose f.concluded
      have closed : (s.closedUp f).AllFresh := taken.of_heads (by simp only [State.closedUp])
      rw [State.closeFrame_eq]
      exact (closed.of_heads (by simp)).readmitted.tryOpen
    next => exact clean

theorem State.AllFresh.followTier (fresh : s.AllFresh) (before : Tier) : (s.followTier before).Readmitted := by
  unfold State.followTier
  split
  · exact fresh.readmitted
  · split
    · exact fresh.haltEntry.readmitted
    · exact fresh.readmitted.reschedule

theorem State.Readmitted.judgeAtTime (clean : s.Readmitted) : s.judgeAtTime.Readmitted := by
  unfold State.judgeAtTime
  split
  · exact (clean.of_eq (by simp) fun h => State.outcomeOf_of_frame (by simp) h).reschedule
  · exact clean

/-! ### The running part at midnight -/

theorem State.advanceRunning_eq (s : State) (midnight : s.midnight = true) : s.advanceRunning =
    (s.advanced.followTier s.energy.effective).judgeAtTime.tryOpen.reachD.wakeReached.closeIfFinished := by
  obtain ⟨-, -, -, -, -, -, effective, -⟩ := s.secondEnded_keeps
  rw [State.advanceRunning, ← State.secondEnded, State.actOnAdvance, State.secondEnded_rolloverDue, if_pos midnight,
    State.runningRollover_eq, effective, State.advanced_eq, if_pos midnight]

theorem exec_midnight (runs : s.runs = true) (midnight : s.midnight = true) : exec .secondsCountAdvance s =
    .next (s.advanced.followTier s.energy.effective).judgeAtTime.tryOpen.reachD.wakeReached.closeIfFinished := by
  rw [← s.advanceRunning_eq midnight]
  exact congrArg Host.Outcome.next (if_pos runs)

theorem State.advanced_energy (midnight : s.midnight = true) : s.advanced.energy = { s.secondEnded.energy with
    spend := 0, floor := .none, effective := s.energy.voltageTier } := by
  obtain ⟨-, -, -, -, -, -, -, voltage, -⟩ := s.secondEnded_keeps
  rw [State.advanced_eq, if_pos midnight, ← voltage]
  rfl

theorem State.advanced_judged (midnight : s.midnight = true) : s.advanced.Judged := by
  obtain ⟨-, -, -, -, -, -, -, voltage, -⟩ := s.secondEnded_keeps
  rw [State.Judged, State.advanced_energy midnight, ← voltage]
  exact ⟨(floorOf_zero _).symm, (worse_normal _).symm⟩

theorem State.advanced_fresh (midnight : s.midnight = true) : s.advanced.AllFresh := fun h => by
  rw [State.advanced_eq, if_pos midnight]
  cases h <;> exact ⟨rfl, rfl, rfl⟩

/-- What a midnight of the running part leaves of the charge. -/
theorem State.midnight_spends (s : State) : s.advanced.Spends
    (s.advanced.followTier s.energy.effective).judgeAtTime.tryOpen.reachD.wakeReached.closeIfFinished :=
  ((((((State.followTier_spends _ _).trans (State.judgeAtTime_spends _)).trans (State.tryOpen_spends _)).trans
    (State.reachD_spends _)).trans (.forHeads State.wakeIfReached_spends _)).trans (State.closeIfFinished_spends _))

theorem State.midnight_readmits (midnight : s.midnight = true) :
    (s.advanced.followTier s.energy.effective).judgeAtTime.tryOpen.reachD.wakeReached.closeIfFinished.Readmitted := by
  have followed := (State.advanced_fresh midnight).followTier s.energy.effective
  exact (State.Readmitted.everyHead State.Readmitted.wakeIfReached followed.judgeAtTime.tryOpen.reachD).closeIfFinished

end

end Sys2Proof.Machine

/-! ## The blocks at an advance -/

namespace Sys2Proof.Machine

section

variable {s t : State} {f : Frame} {h : Head} {m : Member}

/-! ### An advance at which nothing falls -/

theorem State.blocks_idle (idle : s.frame = none) (ahead : s.openReached = false) :
    s.tryOpen.reachD.wakeReached.closeIfFinished = s := by
  rw [State.tryOpen_of_ahead ahead, State.reachD_of_none idle, State.wakeReached_of_none idle, State.closeIfFinished_of_none idle]

theorem Frame.QuietAt.rests {n : Int} (quiet : f.QuietAt n) (member : f.members.get h = some m) : m.Rests n := by
  obtain ⟨k, other⟩ : ∃ k : Head, h ≠ k := by
    cases h with
    | h0 => exact ⟨.h1, by decide⟩
    | h1 | h2 | h3 => exact ⟨.h0, by decide⟩
  obtain ⟨-, rests⟩ := quiet k
  exact rests h m other member

theorem State.blocks_quiet (frame : s.frame = some f) (open_ : s.frameFinished = false) (quiet : f.QuietAt s.now) :
    s.tryOpen.reachD.wakeReached.closeIfFinished = s := by
  obtain ⟨still, -⟩ := quiet .h0
  rw [State.tryOpen_of_frame frame, State.reachD_of_quiet frame still, State.wakeReached_of_rests, State.closeIfFinished_of_open open_]
  rintro k g m frame' member
  obtain rfl : f = g := Option.some.inj (frame.symm.trans frame')
  exact quiet.rests member

theorem State.openReached_of_ahead (ahead : ∀ o : Int, s.sched.openTime = some o → s.now < o) : s.openReached = false := by
  unfold State.openReached
  cases opens : s.sched.openTime with
  | none => rfl
  | some o => simpa using ahead o opens

/-! ### An AT_TIME successor -/

/-- The part with the successor entered. -/
def State.entered (s : State) : State := { s with
  plan := { s.plan with
    index := s.plan.successorIndex, entry := (s.plan.entry + 1) % 4294967296
    remaining := s.plan.successor.frameLimit, confirm := 0 }
  stations := ⟨{ s.stations.ul with flags := s.stations.ul.flags ||| 4#10 },
    { s.stations.sv with flags := s.stations.sv.flags ||| 4#10 }⟩ }

theorem State.enterPhase_successor (s : State) : s.enterPhase s.plan.successorIndex = s.entered := by
  have mask : Event.phaseChanged.mask = 4#10 := by decide
  simp only [State.enterPhase, State.raiseBoth, State.raiseAt, State.modStation, Two.set, Two.get, mask]
  rfl

theorem State.judgeAtTime_of_met (met : s.atTimeMet = true) : s.judgeAtTime = s.entered.reschedule := by
  rw [State.judgeAtTime, if_pos met, State.enterPhase_successor]

theorem State.atTimeMet_congr (run : t.sched.run = s.sched.run) (valid : t.time = s.time) (plan : t.plan = s.plan) :
    t.atTimeMet = s.atTimeMet := by
  rw [State.atTimeMet, State.atTimeMet, State.timeOfDay, State.timeOfDay, run, valid, plan]

theorem State.advanced_atTimeMet (running : s.sched.run = .running) (valid : s.time.valid = true)
    (start : s.plan.successor.start = .atTime (s.nextSecond % 86400)) : s.advanced.atTimeMet = true := by
  have day : s.advanced.timeOfDay = s.nextSecond % 86400 := by
    simp only [State.timeOfDay, State.advanced_keeps, State.secondEnded_time]
  simp only [State.atTimeMet, State.advanced_keeps, State.secondEnded_keeps, State.secondEnded_time, day, start, startTime?,
    running, valid]
  simp

theorem State.advanced_atTimeMet_of_noEntry (rest : s.NoEntryAhead) : s.advanced.atTimeMet = false := by
  cases met : s.advanced.atTimeMet with
  | false => rfl
  | true =>
    have day : s.advanced.timeOfDay = s.nextSecond % 86400 := by
      simp only [State.timeOfDay, State.advanced_keeps, State.secondEnded_time]
    simp only [State.atTimeMet, State.advanced_keeps, State.secondEnded_keeps, State.secondEnded_time, day, Bool.and_eq_true,
      decide_eq_true_eq] at met
    obtain ⟨⟨running, valid⟩, start⟩ := met
    rcases rest with held | invalid | other
    · simp [held] at running
    · simp [invalid] at valid
    · cases successor : s.plan.successor.start <;> simp_all [startTime?]

/-! ### Wake times -/

/-- A member whose wake time has been judged at `now`. -/
def Member.judgedAt (now : Int) (m : Member) : Member := if m.reached = false ∧ m.wakeTime ≤ now then { m with reached := true } else m

theorem State.wakeIfReached_of_due (frame : s.frame = some f) (member : f.members.get h = some m) (open_ : m.outcome = none)
    (fresh : m.reached = false) (due : m.wakeTime ≤ s.now) :
    State.wakeIfReached h s = (s.wake f h).modMember h (fun x => { x with reached := true }) := by
  simp [State.wakeIfReached, frame, member, open_, fresh, due]

theorem State.wakeIfReached_of_stranger (stranger : s.member h = none) : State.wakeIfReached h s = s := by
  refine State.wakeIfReached_of_rests fun f m frame member => ?_
  rw [State.member_some h frame, member] at stranger
  exact nomatch stranger

theorem State.wakeIfReached_of_later (entry : s.member h = some m) (later : s.now < m.wakeTime) : State.wakeIfReached h s = s := by
  refine State.wakeIfReached_of_rests fun f x frame member => ?_
  obtain rfl : m = x := by rw [State.member_some h frame, member] at entry; exact (Option.some.inj entry).symm
  exact .inr later

/-- The woken head. -/
def HeadSeq.woken (x : HeadSeq) (timeout : Nat) : HeadSeq := { x.enter .waking with hello := some (timeout * 1000) }

theorem State.wake_head (f : Frame) (asleep : (s.heads.get h).state = .off ∨ (s.heads.get h).state = .standby) :
    (s.wake f h).heads.get h = (s.heads.get h).woken (s.settings.head.get h).helloTimeout := by
  unfold State.wake State.enterWaking
  rcases asleep with state | state <;>
    · simp only [state, State.modHead_heads, Four.get_set_self]
      simp [HeadSeq.woken, secondsMs, State.headSettings, State.railOn]

theorem State.wakeIfReached_member (s : State) (h : Head) :
    (State.wakeIfReached h s).member h = (s.member h).map (Member.judgedAt s.now) := by
  unfold State.wakeIfReached
  cases frame : s.frame with
  | none => simp [State.member_eq, frame]
  | some f =>
    dsimp only
    cases member : f.members.get h with
    | none => simp [State.member_some h frame, member]
    | some m =>
      have entry : s.member h = some m := (State.member_some h frame).trans member
      dsimp only
      split
      next due => split <;> simp [entry, Member.judgedAt, due]
      next rests => simp [entry, Member.judgedAt, rests]

/-- Every wake time is judged once. -/
theorem State.wakeReached_member (s : State) (h : Head) : s.wakeReached.member h = (s.member h).map (Member.judgedAt s.now) := by
  refine forHeads_at h (before := fun t => t.member h = s.member h ∧ t.now = s.now)
    (after := fun t => t.member h = (s.member h).map (Member.judgedAt s.now)) ⟨rfl, rfl⟩ ?_ ?_ ?_
  · rintro g t other ⟨member, now⟩
    obtain ⟨member', -⟩ := t.wakeIfReached_ne other.symm
    exact ⟨member'.trans member, by simpa [State.now] using now⟩
  · rintro t ⟨member, now⟩
    rw [t.wakeIfReached_member, member, now]
  · rintro g t other member
    obtain ⟨member', -⟩ := t.wakeIfReached_ne other.symm
    exact member'.trans member

/-- A head in the judging of every wake time, from what its own turn makes of it. -/
theorem State.wakeReached_head {k : Head} {head : HeadSeq}
    (own : ∀ t : State, t.member k = s.member k → t.heads.get k = s.heads.get k → t.now = s.now → t.settings = s.settings →
      (State.wakeIfReached k t).heads.get k = head) : s.wakeReached.heads.get k = head := by
  refine forHeads_at k
    (before := fun t => t.member k = s.member k ∧ t.heads.get k = s.heads.get k ∧ t.now = s.now ∧ t.settings = s.settings)
    (after := fun t => t.heads.get k = head)
    ⟨rfl, rfl, rfl, rfl⟩ ?_ (fun t ⟨member, head, now, settings⟩ => own t member head now settings) ?_
  · rintro g t other ⟨member, head, now, settings⟩
    obtain ⟨member', head'⟩ := t.wakeIfReached_ne other.symm
    exact ⟨member'.trans member, head'.trans head, by simpa [State.now] using now, by simpa using settings⟩
  · rintro g t other head
    obtain ⟨-, head'⟩ := t.wakeIfReached_ne other.symm
    exact head'.trans head

theorem State.wakeReached_head_stranger (stranger : s.member h = none) : s.wakeReached.heads.get h = s.heads.get h :=
  State.wakeReached_head fun t member head _ _ => by
    rw [State.wakeIfReached_of_stranger (member.trans stranger), head]

theorem State.wakeReached_head_later (entry : s.member h = some m) (later : s.now < m.wakeTime) :
    s.wakeReached.heads.get h = s.heads.get h :=
  State.wakeReached_head fun t member head now _ => by
    rw [State.wakeIfReached_of_later (member.trans entry) (by rwa [now]), head]

theorem State.wakeReached_head_due (entry : s.member h = some m) (open_ : m.outcome = none) (fresh : m.reached = false)
    (due : m.wakeTime ≤ s.now) (asleep : (s.heads.get h).state = .off ∨ (s.heads.get h).state = .standby) :
    s.wakeReached.heads.get h = (s.heads.get h).woken (s.settings.head.get h).helloTimeout :=
  State.wakeReached_head fun t member head now settings => by
    obtain ⟨g, frame, own⟩ := Option.bind_eq_some_iff.mp ((t.member_eq h).symm.trans (member.trans entry))
    rw [State.wakeIfReached_of_due frame own open_ fresh (by rwa [now])]
    simp only [State.modMember_keeps]
    rw [State.wake_head g (by rwa [head]), head, settings]

theorem State.wakeIfReached_sync (h : Head) (s : State) :
    (State.wakeIfReached h s).frame.map Frame.sync = s.frame.map Frame.sync := by
  unfold State.wakeIfReached
  split
  · rfl
  · split
    · rfl
    · split
      · split <;> simp [State.modMember_frame, Option.map_map, Function.comp_def]
      · rfl

theorem State.wakeReached_sync (s : State) : s.wakeReached.frame.map Frame.sync = s.frame.map Frame.sync := by
  simp only [State.wakeReached, forHeads, State.wakeIfReached_sync]

/-! ### The wake of one member -/

/-- Where every other wake time rests, the advance judges one. -/
theorem State.wakeReached_only (rests : ∀ (k : Head) (x : Member), k ≠ h → s.member k = some x → x.Rests s.now) :
    s.wakeReached = State.wakeIfReached h s := by
  have before {k : Head} (other : k ≠ h) : State.wakeIfReached k s = s := by
    refine State.wakeIfReached_of_rests fun f x frame member => rests k x other ((State.member_some k frame).trans member)
  have after {k : Head} (other : k ≠ h) : State.wakeIfReached k (State.wakeIfReached h s) = State.wakeIfReached h s := by
    refine State.wakeIfReached_of_rests fun f x frame member => ?_
    obtain ⟨same, -⟩ := s.wakeIfReached_ne (h := h) other
    have now : (State.wakeIfReached h s).now = s.now := by simp [State.now]
    rw [now]
    exact rests k x other (same.symm.trans ((State.member_some k frame).trans member))
  cases h with
  | h0 => rw [State.wakeReached, forHeads, after (by decide), after (by decide), after (by decide)]
  | h1 => rw [State.wakeReached, forHeads, before (by decide), after (by decide), after (by decide)]
  | h2 => rw [State.wakeReached, forHeads, before (by decide), before (by decide), after (by decide)]
  | h3 => rw [State.wakeReached, forHeads, before (by decide), before (by decide), before (by decide)]

/-- An advance that wakes one member. -/
theorem State.blocks_wake (frame : s.frame = some f) (quiet : f.QuietBut s.now h) (member : f.members.get h = some m)
    (open_ : m.outcome = none) (fresh : m.reached = false) (due : m.wakeTime ≤ s.now) :
    s.tryOpen.reachD.wakeReached.closeIfFinished = (s.wake f h).modMember h (fun x => { x with reached := true }) := by
  obtain ⟨still, rests⟩ := quiet
  have only : s.wakeReached = State.wakeIfReached h s := State.wakeReached_only fun k x other entry =>
    rests k x other ((State.member_some k frame).symm.trans entry)
  have awake : ((s.wake f h).modMember h (fun x => { x with reached := true })).Awake h :=
    (s.wake_awake f h).of_heads (by simp)
  rw [State.tryOpen_of_frame frame, State.reachD_of_quiet frame still, only,
    State.wakeIfReached_of_due frame member open_ fresh due]
  exact State.closeIfFinished_of_open (State.unfinished_of_awake (by simp [State.member_some h frame, member]) awake)

/-! ### The open -/

/-- The part right after an open, before a wake time is judged. -/
def State.openBegun (s : State) (due : Int) (g : HeadSet) : State :=
  (forHeads (State.dropStandby g) (s.createFrame due g false)).askReading

theorem State.openBegun_frame (s : State) (due : Int) (g : HeadSet) : (s.openBegun due g).frame =
    some (({ s with journal := s.journal.restart } : State).newFrame due g false) := by
  simp [State.openBegun, forHeads]; rfl

theorem State.openBegun_head (s : State) (due : Int) (g : HeadSet) (h : Head) : (s.openBegun due g).heads.get h =
    if (s.heads.get h).state = .standby ∧ g.get h = false then { (s.heads.get h).enter .off with keepOff := false }
    else s.heads.get h := by
  have heads : (s.openBegun due g).heads = (forHeads (State.dropStandby g) (s.createFrame due g false)).heads := by
    simp [State.openBegun]
  have created : (s.createFrame due g false).heads = s.heads := by simp
  rw [heads]
  refine forHeads_at h (before := fun t => t.heads.get h = s.heads.get h)
    (after := fun t => t.heads.get h = if (s.heads.get h).state = .standby ∧ g.get h = false
      then { (s.heads.get h).enter .off with keepOff := false } else s.heads.get h) (by rw [created]) ?_ ?_ ?_
  · rintro k t other same
    unfold State.dropStandby
    split
    · rw [(State.railOff_ne other.symm).1, same]
    · exact same
  · rintro t same
    unfold State.dropStandby
    rw [same]
    split
    · rw [State.railOff_head, same]
    · exact same
  · rintro k t other same
    unfold State.dropStandby
    split
    · rw [(State.railOff_ne other.symm).1, same]
    · exact same

theorem State.openBegun_keeps (s : State) (due : Int) (g : HeadSet) :
    (s.openBegun due g).time = s.time ∧ (s.openBegun due g).settings = s.settings := by
  simp [State.openBegun, forHeads]

/-- A frame whose D is ahead opens with its wakes alone. -/
theorem State.openFrame_of_ahead {due : Int} {g : HeadSet} (ahead : s.now < due) :
    s.openFrame due g false = (s.openBegun due g).wakeReached := by
  obtain ⟨f, frame, later, -⟩ := State.wakeReached_later (s.openBegun due g) _ (s.openBegun_frame due g)
  have same : f.due = due := by rw [later]; rfl
  have now : (s.openBegun due g).wakeReached.now = s.now := by simp [State.now, State.openBegun_keeps]
  have quiet := State.reachD_of_quiet frame (.inl (by rw [same, now]; exact ahead))
  exact quiet

end

end Sys2Proof.Machine

/-! ## What an advance of the seconds count brings -/

namespace Sys2Proof.Machine

section

variable {s : State}

theorem State.midnight_iff : s.midnight = true ↔ s.time.valid = true ∧ s.nextSecond % 86400 = 0 := by
  simp [State.midnight]

theorem State.nextSecond_of_noWrap (noWrap : s.time.count + 1 ≠ 4294967296) : s.nextSecond = s.time.count + 1 := if_neg noWrap

theorem State.nextSecond_of_wrap (wrap : s.time.count + 1 = 4294967296) : s.nextSecond = 0 := if_pos wrap

theorem State.not_midnight (noWrap : s.time.count + 1 ≠ 4294967296)
    (day : s.time.valid = false ∨ (s.time.count + 1) % 86400 ≠ 0) : s.midnight = false := by
  rw [← Bool.not_eq_true, State.midnight_iff, State.nextSecond_of_noWrap noWrap]
  rintro ⟨valid, zero⟩
  exact day.elim (by simp [valid]) fun other => other zero

theorem State.rests_of_noMidnight (runs : s.runs = true) (day : s.midnight = false) : s.AdvanceRests :=
  ⟨runs, fun midnight => absurd midnight (by simp [day])⟩

/-! ### The count -/

theorem State.judgeAtTime_time (s : State) : s.judgeAtTime.time = s.time := by
  unfold State.judgeAtTime; split <;> simp

theorem State.blocks_time (s : State) : s.judgeAtTime.tryOpen.reachD.wakeReached.closeIfFinished.time = s.time := by
  simpa using s.judgeAtTime_time

theorem State.advanceCount_of_noWrap (noWrap : s.time.count + 1 ≠ 4294967296) :
    s.advanceCount = { s with time := { s.time with count := s.time.count + 1, subSecond := 0 } } := by
  have count : nextCount s.time.count = s.time.count + 1 := if_neg noWrap
  rw [State.advanceCount, if_neg (show s.time.count + 1 ≠ countModulus from noWrap), count]

theorem State.advanceCount_of_wrap (wrap : s.time.count + 1 = 4294967296) :
    s.advanceCount = { s.wrapped with time := { s.time with count := 0, subSecond := 0 } } := by
  have count : nextCount s.time.count = 0 := if_pos wrap
  rw [State.advanceCount, if_pos (show s.time.count + 1 = countModulus from wrap), count]
  rfl

theorem State.advanceCount_rolloverDue (s : State) : s.advanceCount.rolloverDue = s.midnight := by
  rw [State.rolloverDue, State.timeOfDay, State.advanceCount_time]; rfl

theorem exec_stopped (stopped : s.runs = false) : exec .secondsCountAdvance s =
    .next (if s.midnight then s.advanceCount.rollover else s.advanceCount) := by
  rw [← s.advanceCount_rolloverDue]
  exact congrArg Host.Outcome.next (if_neg (by simp [stopped]))

theorem State.rollover_time (s : State) : s.rollover.time = s.time := by rw [State.rollover_eq]

/-- The count advances in every state. -/
theorem exec_counts (s : State) : ∃ t : State, exec .secondsCountAdvance s = .next t ∧ t.time.count = s.nextSecond
    ∧ t.time.valid = s.time.valid ∧ t.time.subSecond = 0 := by
  obtain ⟨-, -, -, -, -, advanced, -⟩ := s.advanced_keeps
  cases runs : s.runs with
  | false =>
    refine ⟨_, exec_stopped runs, ?_⟩
    split
    · rw [State.rollover_time, State.advanceCount_time]; exact ⟨rfl, rfl, rfl⟩
    · rw [State.advanceCount_time]; exact ⟨rfl, rfl, rfl⟩
  | true =>
    cases midnight : s.midnight with
    | true =>
      refine ⟨_, exec_midnight runs midnight, ?_⟩
      have followed : (s.advanced.followTier s.energy.effective).time = s.advanced.time := by simp
      rw [State.blocks_time, followed, advanced, State.secondEnded_time]
      exact ⟨rfl, rfl, rfl⟩
    | false =>
      refine ⟨_, exec_advance (State.rests_of_noMidnight runs midnight), ?_⟩
      rw [State.blocks_time, advanced, State.secondEnded_time]
      exact ⟨rfl, rfl, rfl⟩

/-! ### The running part, no entry ahead -/

theorem exec_noEntry (rests : s.AdvanceRests) (noEntry : s.NoEntryAhead) : exec .secondsCountAdvance s =
    .next s.advanced.tryOpen.reachD.wakeReached.closeIfFinished := by
  rw [exec_advance rests, State.judgeAtTime_of_noEntry noEntry]

theorem exec_idle (rests : s.AdvanceRests) (noEntry : s.NoEntryAhead) (idle : s.advanced.frame = none)
    (ahead : s.advanced.openReached = false) : exec .secondsCountAdvance s = .next s.advanced := by
  rw [exec_noEntry rests noEntry, State.blocks_idle idle ahead]

theorem State.advanced_frame_none (idle : s.frame = none) : s.advanced.frame = none := by
  obtain ⟨-, -, -, -, -, -, frame, -⟩ := s.advanced_keeps
  have absent : s.secondEnded.frame.isSome = false := by rw [s.secondEnded_frame_isSome, idle]; rfl
  rw [frame]
  exact Option.not_isSome_iff_eq_none.mp (by simp [absent])

theorem State.advanced_of_plain (noWrap : s.time.count + 1 ≠ 4294967296) (day : s.midnight = false) :
    s.advanced = { s.elapse (1000 - s.time.subSecond) with
      time := { (s.elapse (1000 - s.time.subSecond)).time with count := s.time.count + 1, subSecond := 0 } } := by
  rw [State.advanced_eq, day, State.secondEnded]
  exact State.advanceCount_of_noWrap (s := s.elapse (1000 - s.time.subSecond)) noWrap

theorem State.advanced_openTime (opens : s.sched.openTime = none) : s.advanced.sched.openTime = none := by
  obtain ⟨-, -, -, -, -, -, -, sched⟩ := s.advanced_keeps
  rw [sched, State.secondEnded, State.advanceCount]
  split
  · simp [State.shiftTimes, Scheduler.shift, State.elapse_keeps, opens]
  · simp [State.elapse_keeps, opens]

/-! ### Midnight -/

/-- A rollover of a HELD part with no frame, whatever tier it leaves. -/
theorem exec_midnight_held (runs : s.runs = true) (midnight : s.midnight = true) (judged : s.EffectiveIsWorse)
    (idle : s.frame = none) (held : s.sched.run = .held) (opens : s.sched.openTime = none) :
    ∃ t : State, exec .secondsCountAdvance s = .next t ∧ t.energy = s.advanced.energy ∧ t.heads = s.advanced.heads := by
  have frame := State.advanced_frame_none idle
  have opens' := State.advanced_openTime opens
  obtain ⟨-, -, -, -, run, -⟩ := s.advanced_keeps
  have run' : s.advanced.sched.run = .held := run.trans held
  have tier : s.advanced.energy.effective = s.energy.voltageTier := by rw [State.advanced_energy midnight]
  obtain ⟨r, followed, energy, heads, frame', still, ahead⟩ : ∃ r : State, s.advanced.followTier s.energy.effective = r
      ∧ r.energy = s.advanced.energy ∧ r.heads = s.advanced.heads ∧ r.frame = none ∧ r.sched.run = .held
      ∧ r.sched.openTime = none := by
    unfold State.followTier
    split
    next => exact ⟨_, rfl, rfl, rfl, frame, run', opens'⟩
    next differs =>
      have powered : s.advanced.energy.effective ≠ .halt := fun halt => by
        rw [tier] at halt differs
        exact differs (by rw [halt, judged, halt, worse_halt])
      rw [if_neg powered, State.reschedule_of_held frame run']
      exact ⟨_, rfl, rfl, rfl, frame, run', rfl⟩
  refine ⟨r, ?_, energy, heads⟩
  have unmet : r.judgeAtTime = r := if_neg (by simp [State.atTimeMet, still])
  rw [exec_midnight runs midnight, followed, unmet, State.blocks_idle frame' (State.openReached_of_ahead (by simp [ahead]))]

/-- A rollover that changes the tier with no frame in flight has the due time computed. -/
theorem State.followTier_of_rollover (midnight : s.midnight = true) (idle : s.frame = none)
    (differs : s.energy.voltageTier ≠ s.energy.effective) (powered : s.energy.voltageTier ≠ .halt)
    (ahead : s.advanced.computeDue.openReached = false) :
    s.advanced.followTier s.energy.effective = s.advanced.computeDue := by
  have tier : s.advanced.energy.effective = s.energy.voltageTier := by rw [State.advanced_energy midnight]
  rw [State.followTier, tier, if_neg differs, if_neg powered, State.reschedule_of_none (State.advanced_frame_none idle),
    State.tryOpen_of_ahead ahead]

theorem State.computeDue_run (s : State) : s.computeDue.sched.run = s.sched.run := by
  unfold State.computeDue
  split
  · rfl
  · split <;> rfl

theorem State.advanced_settings (s : State) : s.advanced.settings = s.settings := by
  obtain ⟨-, -, -, settings, -⟩ := s.advanced_keeps
  exact settings

/-- What midnight leaves of spend, floor and tier, whatever the blocks do at it. -/
theorem exec_midnight_energy (runs : s.runs = true) (midnight : s.midnight = true) :
    ∃ t : State, exec .secondsCountAdvance s = .next t ∧ t.Readmitted ∧ t.energy.spend ≤ s.advanced.chargeAhead
      ∧ t.energy.floor = floorOf s.settings.allowance t.energy.spend
      ∧ t.energy.effective = worse t.energy.voltageTier t.energy.floor.tier := by
  have spends := s.midnight_spends
  refine ⟨_, exec_midnight runs midnight, State.midnight_readmits midnight, ?_⟩
  generalize (s.advanced.followTier s.energy.effective).judgeAtTime.tryOpen.reachD.wakeReached.closeIfFinished = t at *
  obtain ⟨settings, judged, charge⟩ := spends
  obtain ⟨floor, effective⟩ := judged (State.advanced_judged midnight)
  rw [settings, State.advanced_settings] at floor
  refine ⟨le_trans ?_ charge, floor, effective⟩
  simp only [State.chargeAhead]
  omega

theorem State.advanced_chargeAhead (midnight : s.midnight = true) : s.advanced.chargeAhead =
    (s.advanced.energy.onTime.h0.ms * s.settings.head.h0.current / 1000)
      + (s.advanced.energy.onTime.h1.ms * s.settings.head.h1.current / 1000)
      + (s.advanced.energy.onTime.h2.ms * s.settings.head.h2.current / 1000)
      + (s.advanced.energy.onTime.h3.ms * s.settings.head.h3.current / 1000) := by
  have spend : s.advanced.energy.spend = 0 := by rw [State.advanced_energy midnight]
  rw [State.chargeAhead, spend, Nat.zero_add, ← s.advanced_settings]
  rfl

theorem exec_rollover_due (runs : s.runs = true) (midnight : s.midnight = true) (idle : s.frame = none)
    (differs : s.energy.voltageTier ≠ s.energy.effective) (powered : s.energy.voltageTier ≠ .halt)
    (ahead : s.advanced.computeDue.openReached = false) :
    (s.NoEntryAhead → exec .secondsCountAdvance s = .next s.advanced.computeDue)
      ∧ (s.advanced.atTimeMet = true → s.advanced.computeDue.entered.computeDue.openReached = false →
          exec .secondsCountAdvance s = .next s.advanced.computeDue.entered.computeDue) := by
  have frame : s.advanced.computeDue.frame = none := by simp [State.advanced_frame_none idle]
  have met : s.advanced.computeDue.atTimeMet = s.advanced.atTimeMet :=
    State.atTimeMet_congr (State.computeDue_run _) (by simp) (by simp)
  rw [exec_midnight runs midnight, State.followTier_of_rollover midnight idle differs powered ahead]
  refine ⟨fun noEntry => ?_, fun entry ahead' => ?_⟩
  · have unmet : s.advanced.computeDue.judgeAtTime = s.advanced.computeDue :=
      if_neg (by simp [met, State.advanced_atTimeMet_of_noEntry noEntry])
    rw [unmet, State.blocks_idle frame ahead]
  · rw [State.judgeAtTime_of_met (met.trans entry), State.reschedule_of_none (s := s.advanced.computeDue.entered) frame,
      State.tryOpen_of_ahead ahead', State.blocks_idle (s := s.advanced.computeDue.entered.computeDue) ?_ ahead']
    exact (State.computeDue_frame _).trans frame

/-! ### The open at an advance -/

theorem Member.judgedAt_rests (now : Int) (m : Member) : (m.judgedAt now).Rests now := by
  unfold Member.judgedAt
  split
  next => exact .inl rfl
  next rests =>
    rw [Member.Rests]
    by_contra awake
    obtain ⟨fresh, due⟩ := not_or.mp awake
    exact rests ⟨by simpa using fresh, by omega⟩

/-- Wake times that have been judged rest. -/
theorem State.wakeReached_wakeReached (s : State) : s.wakeReached.wakeReached = s.wakeReached := by
  refine State.wakeReached_of_rests fun h f m frame member => ?_
  have entry : s.wakeReached.member h = some m := (State.member_some h frame).trans member
  have now : s.wakeReached.now = s.now := by simp [State.now]
  rw [State.wakeReached_member] at entry
  obtain ⟨x, -, rfl⟩ := Option.map_eq_some_iff.mp entry
  rw [now]
  exact x.judgedAt_rests _

/-- The scheduled frame opens, its D ahead. -/
theorem exec_opens (rests : s.AdvanceRests) (noEntry : s.NoEntryAhead) {d o : Int} (idle : s.advanced.frame = none)
    (due : s.advanced.sched.due = some d) (opens : s.advanced.sched.openTime = some o) (reached : o ≤ s.advanced.now)
    (member : ∃ h : Head, s.advanced.group.get h = true) (ahead : s.advanced.now < d) :
    exec .secondsCountAdvance s = .next (s.advanced.openFrame d s.advanced.group false) := by
  have group : emptyGroup s.advanced.group = false := by
    obtain ⟨h, member⟩ := member
    rw [← Bool.not_eq_true, emptyGroup_iff]
    exact fun none => by simp [none h] at member
  obtain ⟨f, frame, later, -⟩ := s.advanced.openFrame_frame d s.advanced.group false
  have same : f.due = d := by rw [later]; rfl
  have now : (s.advanced.openFrame d s.advanced.group false).now = s.advanced.now := by simp [State.now]
  have opened : s.advanced.tryOpen = s.advanced.openFrame d s.advanced.group false := by
    rw [State.tryOpen_of_reached idle ((State.openReached_iff opens).mpr reached) due, State.openScheduled,
      if_neg (by simp [group])]
  rw [exec_noEntry rests noEntry, opened, State.reachD_of_quiet frame (.inl (by rw [same, now]; exact ahead)),
    State.openFrame_of_ahead ahead, State.wakeReached_wakeReached, ← State.openFrame_of_ahead ahead,
    State.closeIfFinished_of_open (State.openFrame_unfinished _ _ _ group)]

theorem exec_emptyOpen (rests : s.AdvanceRests) (noEntry : s.NoEntryAhead) {d o : Int} (idle : s.advanced.frame = none)
    (due : s.advanced.sched.due = some d) (opens : s.advanced.sched.openTime = some o) (reached : o ≤ s.advanced.now)
    (empty : ∀ h : Head, s.advanced.group.get h = false) :
    exec .secondsCountAdvance s = .next (s.advanced.emptyOpen d) := by
  have opened : s.advanced.tryOpen = s.advanced.emptyOpen d := by
    rw [State.tryOpen_of_reached idle ((State.openReached_iff opens).mpr reached) due, State.openScheduled,
      if_pos ((emptyGroup_iff _).mpr empty)]
  have frame : (s.advanced.emptyOpen d).frame = none := by simp [idle]
  rw [exec_noEntry rests noEntry, opened, State.reachD_of_none frame, State.wakeReached_of_none frame,
    State.closeIfFinished_of_none frame]

/-! ### The wake of a member in full -/

theorem State.modMember_eq {f : Frame} {h : Head} {m : Member} (g : Member → Member) (frame : s.frame = some f)
    (member : f.members.get h = some m) :
    s.modMember h g = { s with frame := some { f with members := f.members.set h (some (g m)) } } := by
  simp [State.modMember, State.modFrame, frame, member]

theorem State.wake_off {f : Frame} {h : Head} {m : Member} (frame : s.frame = some f) (member : f.members.get h = some m)
    (off : (s.heads.get h).state = .off) : (s.wake f h).modMember h (fun x => { x with reached := true }) = { s with
      heads := s.heads.set h ((s.heads.get h).woken (s.settings.head.get h).helloTimeout)
      energy := { s.energy with onTime := s.energy.onTime.set h { s.energy.onTime.get h with running := true } }
      frame := some { f with members := f.members.set h (some { m with reached := true }) } } := by
  have woken : s.wake f h = { s with
      heads := s.heads.set h ((s.heads.get h).woken (s.settings.head.get h).helloTimeout)
      energy := { s.energy with onTime := s.energy.onTime.set h { s.energy.onTime.get h with running := true } } } := by
    unfold State.wake
    rw [off]
    rfl
  rw [State.modMember_eq _ (by simpa using frame) member, woken]

theorem State.wake_standby {f : Frame} {h : Head} {m : Member} (frame : s.frame = some f) (member : f.members.get h = some m)
    (standby : (s.heads.get h).state = .standby) (place : s.hasPlace (headPort h) = true) :
    (s.wake f h).modMember h (fun x => { x with reached := true }) = { s with
      heads := s.heads.set h ((s.heads.get h).woken (s.settings.head.get h).helloTimeout)
      ports := s.ports.set (headPort h) { s.ports.get (headPort h) with
        queue := (s.ports.get (headPort h)).queue ++ [callMessage h f] }
      frame := some { f with members := f.members.set h (some { m with reached := true }) } } := by
  have woken : s.wake f h = { s with
      heads := s.heads.set h ((s.heads.get h).woken (s.settings.head.get h).helloTimeout)
      ports := s.ports.set (headPort h) { s.ports.get (headPort h) with
        queue := (s.ports.get (headPort h)).queue ++ [callMessage h f] } } := by
    unfold State.wake
    rw [standby]
    dsimp only
    rw [State.enqueue_of_place _ place]
    rfl
  rw [State.modMember_eq _ (by simpa using frame) member, woken]

/-! ### The members and the heads of an open -/

theorem State.membersOf_stranger (s : State) (due : Int) {g : HeadSet} {h : Head} (stranger : g.get h = false) :
    (s.membersOf due g).get h = none := by
  cases h <;> exact if_neg (by simp [stranger])

theorem State.openBegun_member (s : State) (due : Int) (g : HeadSet) (h : Head) : (s.openBegun due g).member h =
    if g.get h = true then some (newMember due (s.settings.head.get h).lead) else none := by
  have members : (s.openBegun due g).member h = (s.membersOf due g).get h := State.member_some h (s.openBegun_frame due g)
  rw [members]
  split
  next member => exact State.membersOf_get _ due member
  next stranger => exact State.membersOf_stranger _ due (by simpa using stranger)

theorem State.openBegun_now (s : State) (due : Int) (g : HeadSet) : (s.openBegun due g).now = s.now := by
  simp [State.now, State.openBegun_keeps]

theorem State.openFrame_member {due : Int} {g : HeadSet} (ahead : s.now < due) (h : Head) :
    (s.openFrame due g false).member h = if g.get h = true then
      some ⟨due - (s.settings.head.get h).lead, decide (due - (s.settings.head.get h).lead ≤ s.now), none, none, none⟩
    else none := by
  rw [State.openFrame_of_ahead ahead, State.wakeReached_member, State.openBegun_member, State.openBegun_now]
  split
  · by_cases reached : due - (s.settings.head.get h).lead ≤ s.now <;>
      simp [Member.judgedAt, newMember, reached]
  · rfl

/-- The head of a member right after the open. -/
theorem State.openFrame_head {due : Int} {g : HeadSet} {h : Head} (ahead : s.now < due) (member : g.get h = true) :
    (s.now < due - (s.settings.head.get h).lead → (s.openFrame due g false).heads.get h = s.heads.get h)
      ∧ (due - (s.settings.head.get h).lead ≤ s.now → (s.heads.get h).state = .off ∨ (s.heads.get h).state = .standby →
          (s.openFrame due g false).heads.get h = (s.heads.get h).woken (s.settings.head.get h).helloTimeout) := by
  have entry := s.openBegun_member due g h
  rw [if_pos member] at entry
  have head : (s.openBegun due g).heads.get h = s.heads.get h := by
    rw [State.openBegun_head, if_neg (by simp [member])]
  have now := s.openBegun_now due g
  obtain ⟨-, settings⟩ := s.openBegun_keeps due g
  rw [State.openFrame_of_ahead ahead, ← head]
  refine ⟨fun later => State.wakeReached_head_later entry (by rwa [now]), fun reached asleep => ?_⟩
  rw [State.wakeReached_head_due entry rfl rfl (by rwa [now]) asleep, settings]

theorem State.openFrame_standby {due : Int} {g : HeadSet} {h : Head} (ahead : s.now < due) (stranger : g.get h = false)
    (standby : (s.heads.get h).state = .standby) : ((s.openFrame due g false).heads.get h).state = .off := by
  have entry := s.openBegun_member due g h
  rw [if_neg (by simp [stranger])] at entry
  rw [State.openFrame_of_ahead ahead, State.wakeReached_head_stranger entry, State.openBegun_head, if_pos ⟨standby, stranger⟩]
  rfl

theorem State.openFrame_sync {due : Int} {g : HeadSet} {f : Frame} (ahead : s.now < due)
    (frame : (s.openFrame due g false).frame = some f) :
    f.sync = if s.plan.activePhase.sync = .free then .beforeD else .waiting := by
  rw [State.openFrame_of_ahead ahead] at frame
  have sync := (s.openBegun due g).wakeReached_sync
  rw [frame, s.openBegun_frame] at sync
  have initial : f.sync = s.plan.activePhase.sync.initial := Option.some.inj sync
  rw [initial]
  cases s.plan.activePhase.sync <;> rfl

end

end Sys2Proof.Machine

namespace Sys2Proof.Proofs

open Sys2Proof.Machine

/-- Settles O15, clause by clause: the count, the rollover, the blocks at one advance, the wrap. -/
theorem secondsCountAdvancesAndRollsOver : Obligations.SecondsCountAdvancesAndRollsOver := by
  refine ⟨fun s => ⟨exec_counts s, fun stopped noWrap day => ?_, fun runs idle held opens noWrap day => ?_⟩,
    fun s valid zero noWrap => ⟨fun stopped => ?_, fun runs judged idle held opens => ?_⟩, ?_, ?_, ?_⟩
  · rw [exec_stopped stopped, State.not_midnight noWrap day, ← State.advanceCount_of_noWrap noWrap]; rfl
  · have day' := State.not_midnight noWrap day
    rw [← State.advanced_of_plain noWrap day']
    exact exec_idle (State.rests_of_noMidnight runs day') (.inl held) (State.advanced_frame_none idle)
      (State.openReached_of_ahead (by simp [State.advanced_openTime opens]))
  · have midnight := State.midnight_iff.mpr ⟨valid, (State.nextSecond_of_noWrap noWrap).symm ▸ zero⟩
    rw [exec_stopped stopped, if_pos midnight, State.advanceCount_of_noWrap noWrap, State.rollover_eq]; rfl
  · have midnight := State.midnight_iff.mpr ⟨valid, (State.nextSecond_of_noWrap noWrap).symm ▸ zero⟩
    obtain ⟨t, taken, energy, heads⟩ := exec_midnight_held runs midnight judged idle held opens
    rw [State.advanced_energy midnight] at energy
    refine ⟨t, taken, by rw [energy], by rw [energy], by rw [energy], fun h => ?_⟩
    rw [heads]
    exact State.advanced_fresh midnight h
  · rintro s u runs midnight rfl
    refine ⟨?_, ?_⟩
    · obtain ⟨t, taken, readmitted, spend, floor, effective⟩ := exec_midnight_energy runs midnight
      rw [State.advanced_chargeAhead midnight] at spend
      refine ⟨t, taken, spend, floor, effective, fun h => ?_⟩
      rcases readmitted h with ⟨miss, admitted, mark⟩ | ⟨mark, miss, closing, missed⟩
      · exact ⟨mark, .inl ⟨miss, admitted⟩⟩
      · exact ⟨mark, .inr ⟨miss, closing, missed⟩⟩
    · rintro c idle differs powered rfl ahead
      obtain ⟨plain, entry⟩ := exec_rollover_due runs midnight idle differs powered ahead
      refine ⟨plain, fun v running start v_eq ahead' => ?_⟩
      obtain ⟨plan, -⟩ := s.advanced_keeps
      obtain ⟨valid, -⟩ := State.midnight_iff.mp midnight
      obtain rfl : v = s.advanced.computeDue.entered := by
        rw [v_eq, ← plan, State.entered]; simp
      exact entry (State.advanced_atTimeMet running valid start) ahead'
  · rintro s u n rests rfl rfl
    obtain ⟨plan, -, journal, settings, -⟩ := s.advanced_keeps
    refine ⟨fun noEntry idle ahead => exec_idle rests noEntry idle (State.openReached_of_ahead ahead),
      fun f noEntry frame open_ quiet => ?_, fun v running valid start v_eq => ?_, fun d o noEntry idle due opens reached => ?_,
      fun f h m x noEntry frame quiet member open_ fresh due x_eq => ?_⟩
    · rw [exec_noEntry rests noEntry, State.blocks_quiet frame open_ quiet]
    · have met := State.advanced_atTimeMet running valid start
      obtain rfl : v = s.advanced.entered := by rw [v_eq, ← plan]; rfl
      refine ⟨fun idle ahead => ?_, fun f frame open_ quiet => ?_⟩
      · rw [exec_advance rests, State.judgeAtTime_of_met met, State.reschedule_of_none (s := s.advanced.entered) idle,
          State.tryOpen_of_ahead ahead, State.blocks_idle (s := s.advanced.entered.computeDue) ((State.computeDue_frame _).trans idle) ahead]
      · rw [exec_advance rests, State.judgeAtTime_of_met met,
          State.reschedule_of_frame (s := s.advanced.entered) (Option.isSome_iff_exists.mpr ⟨f, frame⟩),
          State.blocks_quiet (s := s.advanced.entered) frame open_ quiet]
    · refine ⟨fun empty v v_eq => ?_, fun member ahead => ?_⟩
      · rw [exec_emptyOpen rests noEntry idle due opens reached empty, v_eq]; rfl
      · obtain ⟨f, frame, same, -⟩ := s.advanced.openFrame_frame d s.advanced.group false
        refine ⟨_, f, exec_opens rests noEntry idle due opens reached member ahead, frame, ?_⟩
        have sequence : f.sequence = s.journal.restart.next := by rw [same, ← journal]; rfl
        refine ⟨by rw [sequence, restart_next], ?_, by rw [same]; rfl, by rw [same]; rfl, by rw [same]; rfl, by rw [same]; rfl,
          by rw [same]; rfl, by rw [same]; rfl, by rw [same, ← plan]; rfl, by rw [same, ← plan]; rfl, by rw [same, ← plan]; rfl,
          by rw [same, ← plan]; rfl, by rw [State.openFrame_sync ahead frame, plan], fun h => ?_, State.openFrame_sched _ _ _ _,
          State.openFrame_activity _ _ _ _, fun h own => ?_, fun h stranger standby => State.openFrame_standby ahead stranger standby⟩
        · rw [State.openFrame_journal, journal, sequence]
        · rw [← State.member_some h frame, State.openFrame_member ahead, settings]; rfl
        · obtain ⟨later, woken⟩ := State.openFrame_head ahead own
          rw [settings] at later woken
          refine ⟨later, fun due asleep => ?_⟩
          rw [woken due asleep]
          exact ⟨rfl, rfl⟩
    · have taken := State.blocks_wake frame quiet member open_ fresh due
      rw [exec_noEntry rests noEntry, taken, x_eq, ← settings]
      refine ⟨fun off => ?_, fun standby place => ?_⟩
      · rw [State.wake_off frame member off]; rfl
      · rw [State.wake_standby frame member standby place]; rfl
  · rintro s w move wrap move_eq w_eq
    obtain rfl : move = fun m => if m.reached then m else { m with wakeTime := m.wakeTime - 4294967296 } := funext move_eq
    have advanced : s.advanceCount = w := by rw [State.advanceCount_of_wrap wrap, w_eq]; rfl
    refine ⟨fun stopped invalid => ?_, fun stopped valid => ?_⟩
    · have day : s.midnight = false := by simp [State.midnight, invalid]
      rw [exec_stopped stopped, day, advanced]; rfl
    · have midnight : s.midnight = true := State.midnight_iff.mpr ⟨valid, by rw [State.nextSecond_of_wrap wrap]⟩
      rw [exec_stopped stopped, if_pos midnight, advanced, State.rollover_eq, w_eq]; rfl

end Sys2Proof.Proofs
